-- ==== Sys2Proof/Word.lean ====
section
/-! DEFINITION. The plain words and index types of the hub: bytes and half words as they stand on the links (R192), and
the numbers of sites, pairs, profiles and repair regions (R1, R3, R104). -/
namespace Sys2Proof

/-- A byte of a frame (R192). -/
abbrev Byte := BitVec 8

/-- A two-byte field of a frame (R192), and the width of tags, data words and pin masks. -/
abbrev Half := BitVec 16

/-- A site number, 0 to 7 (R1). -/
abbrev SiteIx := Fin 8

/-- A pair number, 0 to 3 (R1). -/
abbrev PairIx := Fin 4

/-- A profile number, 0 to 3 (R3). -/
abbrev ProfileIx := Fin 4

/-- A repair region number, 0 to 15 (R104). -/
abbrev RegionIx := Fin 16

/-- The eight sites in ascending order. -/
def allSites : List SiteIx := [0, 1, 2, 3, 4, 5, 6, 7]

/-- The four profiles in ascending order. -/
def allProfiles : List ProfileIx := [0, 1, 2, 3]

/-- The sixteen regions of a site in ascending order. -/
def allRegions : List RegionIx := [0, 1, 2, 3, 4, 5, 6, 7, 8, 9, 10, 11, 12, 13, 14, 15]

/-- The pair that serves a site: sites 2k and 2k+1 form pair k (R1). -/
def SiteIx.pair (i : SiteIx) : PairIx := ⟨i.val / 2, by omega⟩

/-- The level of a pin or line. -/
inductive Level where
  | low
  | high
deriving DecidableEq, Repr

end Sys2Proof
end

