-- ==== Sys2Proof/Machine/Codec.lean ====
section
/-! DEFINITION. Bytes on the links: numbers sent most significant byte first, the CRC-16 frame check and the envelope that
every frame has (R192, R193). -/
namespace Sys2Proof.Machine

/-- A number as `w` bytes, most significant first (R192). -/
def beBytes (w value : Nat) : List Byte :=
  (List.range w).map fun k => BitVec.ofNat 8 (value / 256 ^ (w - 1 - k))

/-- The number that bytes give, most significant first (R192). -/
def beNat (bytes : List Byte) : Nat :=
  bytes.foldl (fun acc b => acc * 256 + b.toNat) 0

/-- Two bytes as one half word, high byte first. -/
def joinHalf (hi lo : Byte) : Half := hi ++ lo

/-- The two bytes of a half word, high byte first. -/
def halfBytes (h : Half) : List Byte := [h.extractLsb' 8 8, h.extractLsb' 0 8]

/-- One bit through the check register: polynomial x^16 + x^12 + x^5 + 1 (R193). -/
def crcBit (reg : Half) (bit : Bool) : Half :=
  if Bool.xor reg.msb bit then (reg <<< 1) ^^^ 0x1021#16 else reg <<< 1

/-- One byte through the check register, most significant bit first (R193). -/
def crcByte (reg : Half) (b : Byte) : Half :=
  [7, 6, 5, 4, 3, 2, 1, 0].foldl (fun r k => crcBit r (b.getLsbD k)) reg

/-- The check register after some bytes, started at FFFFH (R193). -/
def crcOf (bytes : List Byte) : Half := bytes.foldl crcByte 0xFFFF#16

/-- What a frame carries before its check: kind, payload length, payload (R192). -/
def envelope (kind : Byte) (declared : Nat) (payload : List Byte) : List Byte :=
  kind :: (beBytes 2 declared ++ payload)

/-- A whole frame: the envelope and its frame check, high byte first (R192, R193). -/
def frameBytes (kind : Byte) (payload : List Byte) : List Byte :=
  envelope kind payload.length payload ++ halfBytes (crcOf (envelope kind payload.length payload))

/-- The kind and payload of a frame that passes its frame check: the register ends at 0000H over all its bytes, the
length field agrees with the bytes received, and the payload is within the largest of its kind (R193). -/
def openFrame (largest : Byte → Nat) : List Byte → Option (Byte × List Byte)
  | kind :: hi :: lo :: rest =>
    if rest.length = (joinHalf hi lo).toNat + 2 ∧ (joinHalf hi lo).toNat ≤ largest kind
        ∧ crcOf (kind :: hi :: lo :: rest) = 0#16 then
      some (kind, rest.take (joinHalf hi lo).toNat)
    else none
  | _ => none

end Sys2Proof.Machine
end

