-- ==== Sys2Proof/Syntax.lean ====
section
/-! DEFINITION. The commands of the hub: one constructor for each row of the table of operations and events, with the
operands that the frame or the event brings. The requests that the Management Agent takes carry no operands of their own:
what they carry came with the CTRL frame and stands in the control intake (R173, R175). -/
namespace Sys2Proof

/-- The payload of a BURST frame, its fields as they stand on the link (R24, R195); codes not yet checked (R25). -/
structure BurstFrame where
  tag : Half
  op : Byte
  r0 : Half
  c0 : Half
  n : Byte
  order : Byte
  direction : Byte
  dataMode : Byte
  d : Half
deriving DecidableEq, Repr

/-- The payload of a CTRL frame: request id, request kind code and the bytes of the body items (R195). -/
structure CtrlRequest where
  id : Half
  kind : Byte
  body : List Byte
deriving DecidableEq, Repr

/-- One entry of a RESULT frame's fail list: vector index and pin mask (R84). -/
structure FailEntry where
  v : Byte
  mask : Half
deriving DecidableEq, Repr

/-- The payload of a RESULT frame whose frame check passes (R84, R198); the status is its code, not yet checked. -/
structure ResultFrame where
  tag : Half
  status : Byte
  entries : List FailEntry
deriving DecidableEq, Repr

/-- The payload of a TELEMETRY frame whose frame check passes (R150, R198). -/
structure TelemetryFrame where
  current : Half
  present : Byte
  phase : Byte
deriving DecidableEq, Repr

/-- The payload of a TRAIN frame whose frame check passes: echoed site number and rate class byte (R142, R198). -/
structure TrainFrame where
  site : Byte
  rate : Byte
deriving DecidableEq, Repr

/-- Whether each of the four memory groups passed the self-test (R191). -/
structure GroupResults where
  profile : Bool
  queues : Bool
  regions : Bool
  report : Bool
deriving DecidableEq, Repr, Inhabited

/-- What the Trunk Port receives of the mainframe's alignment in TRAINING: one alignment sequence without error, or an error
(R184). -/
inductive AlignmentEvent where
  | errorFree | error
deriving DecidableEq, Repr

/-- The commands, one constructor for each row of the table of operations and events. Where a head-link frame is an
`Option`, `none` is a frame that failed its frame check (R146, R193). -/
inductive Instr where
  | powerOnReset
  | resetPin
  | selftestEnd (results : GroupResults)
  | trunkTrainingStart
  | trunkLinkUp (received : List AlignmentEvent)
  | trunkSymbolLockLoss
  | mainframeRestart
  | trunkFrameCheckFail
  | trunkUnknownKind
  | selftestFrameDiscard
  | burst (frame : BurstFrame)
  | mark
  | seriesPoint
  | lineMarkDue (site : SiteIx)
  | linePulseEnd (site : SiteIx)
  | monPulseEnd
  | beat
  | beatExpiry
  | ctrl (request : CtrlRequest)
  | hubReset
  | getHub
  | setHub
  | writeProfile
  | readProfile
  | swapProfile
  | setSite
  | setPair
  | joinSite
  | retireSite
  | clearSite
  | releaseSite
  | readSite
  | readRegion
  | readCells
  | resume
  | unknownRequestKind
  | reportFrameBuild
  | reportFrameSent
  | interruptedReportResend
  | flowFrameSend
  | coalescingTimerExpiry
  | summaryRecord
  | launch (site : SiteIx)
  | vectorBlockEnd (site : SiteIx)
  | controlFrameSend (site : SiteIx)
  | controlFrameEnd (site : SiteIx)
  | patternRecognised (site : SiteIx)
  | trainFrameReceived (site : SiteIx) (frame : Option TrainFrame)
  | headSymbolLockLoss (site : SiteIx)
  | unknownHeadFrame (site : SiteIx)
  | result (site : SiteIx) (frame : Option ResultFrame)
  | telemetry (site : SiteIx) (frame : Option TelemetryFrame)
  | deadlineExpiry (site : SiteIx)
  | trainingLimitExpiry (site : SiteIx)
  | resetPinRelease
  | flowFrameEnd
deriving DecidableEq, Repr

end Sys2Proof
end

