-- ==== Sys2Proof/WellFormed.lean ====
section
/-! DEFINITION. Which commands a frame on a link can bring: the payload limits of R195 and R198. Every other operand is
held to its width by its type. -/
namespace Sys2Proof

/-- A CTRL payload is at most 1024 bytes, three of them the id and the kind (R195). -/
def CtrlRequest.wf (r : CtrlRequest) : Bool := decide (r.body.length + 3 ≤ 1024)

/-- A RESULT payload is at most 196 bytes, 4 + 3 × (entry count) (R198). -/
def ResultFrame.wf (f : ResultFrame) : Bool := decide (4 + 3 * f.entries.length ≤ 196)

/-- The commands whose frames keep the payload limits. -/
def Instr.wf : Instr → Bool
  | .ctrl r => r.wf
  | .result _ (some f) => f.wf
  | _ => true

end Sys2Proof
end

