-- ==== Sys2Proof/Decode.lean ====
section
/-! DEFINITION. From bytes to commands. The table of operations gives no row a word, so `decodeTableWord` answers none.
What the hub does decode is the frames it receives: here every string of bytes that a frame on the trunk link or on a head
link can be becomes one command (R41, R146, R186, R193 to R198), and after the decoders stand the encoders. -/
namespace Sys2Proof

/-- The command that a word of the table's bits spells: no row of the table gives bits (log entry 29). -/
def decodeTableWord (_nbits _w : Nat) : Option Instr := none

/-- The largest payload of each kind on the trunk link (R195); 4096 for a kind that names no defined frame (R193). DESIGN
CHOICE: the kinds of the head-link frames (11H to 15H, 91H, 92H) name no defined frame on the trunk link, so theirs is 4096 here
and not the one R198 gives them on a head link (log entry 38). -/
def trunkLargest (kind : Byte) : Nat :=
  if kind = 0x01#8 then 13
  else if kind = 0x02#8 then 0
  else if kind = 0x03#8 then 0
  else if kind = 0x04#8 then 1024
  else if kind = 0x82#8 then 1
  else 4096

/-- The fields of a BURST payload, which fill it exactly (R195). -/
def decodeBurst : List Byte → Option BurstFrame
  | [t1, t0, op, r1, r0, c1, c0, n, order, direction, mode, d1, d0] =>
    some ⟨Machine.joinHalf t1 t0, op, Machine.joinHalf r1 r0, Machine.joinHalf c1 c0, n, order, direction, mode,
      Machine.joinHalf d1 d0⟩
  | _ => none

/-- The fields of a CTRL payload: id, kind and the body's bytes (R195). -/
def decodeCtrl : List Byte → Option CtrlRequest
  | i1 :: i0 :: kind :: body => some ⟨Machine.joinHalf i1 i0, kind, body⟩
  | _ => none

/-- The command of a payload of a known downstream kind: fields that do not fill it exactly count as a failed check
(R193). DEDUCED: a CTRL payload too short for its id and kind is one such (log entry 18). -/
def decodeDownstream (kind : Byte) (payload : List Byte) : Instr :=
  if kind = 0x01#8 then (decodeBurst payload).elim .trunkFrameCheckFail .burst
  else if kind = 0x02#8 then (if payload = [] then .mark else .trunkFrameCheckFail)
  else if kind = 0x03#8 then (if payload = [] then .beat else .trunkFrameCheckFail)
  else if kind = 0x04#8 then (decodeCtrl payload).elim .trunkFrameCheckFail .ctrl
  else .trunkUnknownKind

/-- The command that the bytes of one downstream frame bring while the link is UP (R186); `selfTest` says that the hub is
in SELFTEST, where every frame that passes its check is discarded (R191). DESIGN CHOICE: a frame of a head-link kind passes with
a payload of up to 4096 bytes, and is one of an unknown kind (log entry 38). -/
def decodeTrunkFrame (selfTest : Bool) (bytes : List Byte) : Instr :=
  match Machine.openFrame trunkLargest bytes with
  | none => .trunkFrameCheckFail
  | some (kind, payload) => if selfTest then .selftestFrameDiscard else decodeDownstream kind payload

/-- The largest payload of each kind that a head sends (R198). -/
def headLargest (kind : Byte) : Nat :=
  if kind = 0x91#8 then 196 else if kind = 0x92#8 then 4 else if kind = 0x15#8 then 2 else 0

/-- The fail entries of a RESULT payload, three bytes each (R198). -/
def decodeEntries : List Byte → Option (List FailEntry)
  | [] => some []
  | v :: m1 :: m0 :: rest => (decodeEntries rest).map (⟨v, Machine.joinHalf m1 m0⟩ :: ·)
  | _ => none

/-- The fields of a RESULT payload: the declared entry count must be the number of entries it holds (R193, R198). -/
def decodeResult : List Byte → Option ResultFrame
  | t1 :: t0 :: status :: count :: rest =>
    match decodeEntries rest with
    | some entries => if entries.length = count.toNat then some ⟨Machine.joinHalf t1 t0, status, entries⟩ else none
    | none => none
  | _ => none

/-- The fields of a TELEMETRY payload (R198). -/
def decodeTelemetry : List Byte → Option TelemetryFrame
  | [c1, c0, present, phase] => some ⟨Machine.joinHalf c1 c0, present, phase⟩
  | _ => none

/-- The fields of a TRAIN payload (R198). -/
def decodeTrain : List Byte → Option TrainFrame
  | [site, rate] => some ⟨site, rate⟩
  | _ => none

/-- The command that the bytes of one frame from the head of site `i` bring: the kind field at the head of the frame
decides the taker, and the taker makes the frame check (R146). -/
def decodeHeadFrame (i : SiteIx) (bytes : List Byte) : Instr :=
  let payload := (Machine.openFrame headLargest bytes).map Prod.snd
  match bytes with
  | [] => .unknownHeadFrame i
  | kind :: _ =>
    if kind = 0x91#8 then .result i (payload.bind decodeResult)
    else if kind = 0x92#8 then .telemetry i (payload.bind decodeTelemetry)
    else if kind = 0x15#8 then .trainFrameReceived i (payload.bind decodeTrain)
    else .unknownHeadFrame i

/-! ### The encoders -/

/-- The payload of a BURST frame (R195). -/
def encodeBurst (f : BurstFrame) : List Byte :=
  Machine.halfBytes f.tag ++ [f.op] ++ Machine.halfBytes f.r0 ++ Machine.halfBytes f.c0
    ++ [f.n, f.order, f.direction, f.dataMode] ++ Machine.halfBytes f.d

/-- The downstream frame that brings a command, for the commands that a frame with a defined kind brings (R195). -/
def encodeTrunkFrame : Instr → Option (List Byte)
  | .burst f => some (Machine.frameBytes 0x01#8 (encodeBurst f))
  | .mark => some (Machine.frameBytes 0x02#8 [])
  | .beat => some (Machine.frameBytes 0x03#8 [])
  | .ctrl r => some (Machine.frameBytes 0x04#8 (Machine.halfBytes r.id ++ r.kind :: r.body))
  | _ => none

/-- The payload of a RESULT frame (R198). -/
def encodeResult (f : ResultFrame) : List Byte :=
  Machine.halfBytes f.tag ++ [f.status, BitVec.ofNat 8 f.entries.length]
    ++ f.entries.flatMap fun e => e.v :: Machine.halfBytes e.mask

/-- The frame from a head that brings a command, for the frames that pass their check (R198). -/
def encodeHeadFrame : Instr → Option (List Byte)
  | .result _ (some f) => some (Machine.frameBytes 0x91#8 (encodeResult f))
  | .telemetry _ (some f) => some (Machine.frameBytes 0x92#8 (Machine.halfBytes f.current ++ [f.present, f.phase]))
  | .trainFrameReceived _ (some f) => some (Machine.frameBytes 0x15#8 [f.site, f.rate])
  | _ => none

end Sys2Proof
end

