-- ==== Sys2Proof/Config.lean ====
section
/-! DEFINITION. What the manual fixes by number for every hub (times in ticks of 4 ns, R2), and the free values: constants
without a body, of which nothing can be proved, for what the manual leaves open. -/
namespace Sys2Proof.Config

/-- Ticks of 4 ns in one microsecond (R2). -/
def ticksPerUs : Nat := 250

/-- The training limit of 20 ms (R66), in ticks. -/
def trainingLimit : Nat := 20000 * ticksPerUs

/-- The length of a self-test that runs, 40 ms (R191), in ticks. -/
def selfTestTicks : Nat := 40000 * ticksPerUs

/-- The length of a skipped self-test, 2 ms (R191), in ticks. -/
def skippedTestTicks : Nat := 2000 * ticksPerUs

/-- One step of the response limit, 100 µs (R53), in ticks. -/
def responseStep : Nat := 100 * ticksPerUs

/-- The unit of the coalescing timer setting and of the beat limit, 10 µs (R166, R187), in ticks. -/
def tenMicroseconds : Nat := 10 * ticksPerUs

/-- FREE VALUE (log entry 4). Which of several internal events that are due together is taken first: the manual leaves
the order open (R94, R175). The argument is the model's counter of free values. -/
opaque eventOrder : Nat → Nat

/-- FREE VALUE (log entry 5). What the self-test of the four memory groups finds (R191) when it ends by itself. -/
opaque selfTestFinding : Nat → GroupResults

/-- FREE VALUE (log entry 6). Whether the Mark Unit takes a telemetry sample's phase error before the Supply Supervisor
takes its current: the manual calls the two takers independent (R150). -/
opaque markUnitFirst : Nat → Bool

end Sys2Proof.Config
end

