-- ==== Sys2Proof/Machine/State.lean ====
section
/-! DEFINITION. The state of the hub, block by block, as plain data, and the state right after reset. Times are readings
of the hub's clock in ticks of 4 ns (R2); a running timer is held as the reading at which it ends or began. -/
namespace Sys2Proof.Machine

/-! ### Named values -/

/-- What the head does at each vector (R24). -/
inductive Op where
  | write | readCompare | readOnly
deriving DecidableEq, Repr

/-- Which address runs fast (R24). -/
inductive Order where
  | colFast | rowFast
deriving DecidableEq, Repr

/-- Sense of the walk (R24). -/
inductive Direction where
  | up | down
deriving DecidableEq, Repr

/-- How the data word varies from vector to vector (R24). -/
inductive DataMode where
  | solid | alternate
deriving DecidableEq, Repr

/-- The two banks of a profile (R3). -/
inductive BankName where
  | a | b
deriving DecidableEq, Repr

/-- The nine states of a site (R61). -/
inductive SiteState where
  | disabled | training | idle | armed | primed | active | draining | retired | released
deriving DecidableEq, Repr

/-- The seven causes (R71). -/
inductive Cause where
  | requested | unrepairable | patternLoss | silent | overcurrent | linkLost | trainFail
deriving DecidableEq, Repr

/-- What a cause does to a site in ACTIVE or DRAINING (R71). -/
inductive CauseKind where
  | draining | abandoning | neither
deriving DecidableEq, Repr

/-- Fail-record mode of a site (R160). -/
inductive FailMode where
  | off | first | all
deriving DecidableEq, Repr

/-- Lock-report edges of a site (R145). -/
inductive LockEdges where
  | none | gain | loss | both
deriving DecidableEq, Repr

/-- Error limit mode of the alignment loop (R137). -/
inductive ErrorMode where
  | oneStep | actual
deriving DecidableEq, Repr

/-- Mode of a site: DISABLED or PROFILE k (R62). -/
inductive SiteMode where
  | disabled
  | profile (k : ProfileIx)
deriving DecidableEq, Repr

/-- Lock state of a head link (R141). -/
inductive LockState where
  | down | coarse | fine
deriving DecidableEq, Repr

/-- Link rate class of a pair (R147). -/
inductive LinkRate where
  | full | half
deriving DecidableEq, Repr

/-- The control frames sent to a head (R69). -/
inductive ControlKind where
  | powerOn | cut | release
deriving DecidableEq, Repr

/-- State of a repair region (R104). -/
inductive RegionState where
  | clean | tracking | unrepairable
deriving DecidableEq, Repr

/-- Mark mode (R123). -/
inductive MarkMode where
  | pass | thin | multiply
deriving DecidableEq, Repr

/-- Source of the MON line (R139). -/
inductive MonSelect where
  | none | frameMark
  | site (s : SiteIx)
  | held | holdover
deriving DecidableEq, Repr

/-- State of the trunk link (R184). -/
inductive LinkState where
  | down | training | up
deriving DecidableEq, Repr

/-- Flow state (R57). -/
inductive FlowState where
  | flowing | held
deriving DecidableEq, Repr

/-- The two flow frames (R59). -/
inductive FlowFrame where
  | hold | release
deriving DecidableEq, Repr

/-- Hub state (R190, R191, R188). -/
inductive HubState where
  | selftest | ready | holdover
deriving DecidableEq, Repr

/-- Outcome of a self-test or of one of its groups (R191). -/
inductive TestOutcome where
  | pass | fail | skipped
deriving DecidableEq, Repr

/-- Memory groups of DIAG records (R191). -/
inductive MemoryGroup where
  | profile | queues | regions | report | all
deriving DecidableEq, Repr

/-- The eight response codes (R177). -/
inductive RespCode where
  | ok | badRequest | badState | bankBusy | swapPending | mapInvalid | geometryLocked | noProfile
deriving DecidableEq, Repr

/-! ### Profile Store -/

/-- The geometry of a bank (R4). -/
structure Geometry where
  rb : Nat
  cb : Nat
  w : Nat
  sr : Nat
  sc : Nat
deriving DecidableEq, Repr

/-- One entry of an address map (R5). -/
structure MapEntry where
  source : Nat
  invert : Bool
  partner : Option Nat
deriving DecidableEq, Repr

/-- The contents of a bank: geometry, address map and topology (R3, R6). -/
structure Tables where
  geometry : Geometry
  map : Vector MapEntry 26
  pinOrder : Vector Nat 16
  rm : BitVec 16
  cm : BitVec 10
  pi : BitVec 16
  ck : BitVec 16
deriving DecidableEq, Repr

/-- One bank of a profile (R3). -/
structure Bank where
  valid : Bool
  refCount : Nat
  tables : Tables
deriving DecidableEq, Repr

/-- One profile (R3). -/
structure Profile where
  active : BankName
  pendingSwap : Bool
  bankA : Bank
  bankB : Bank
deriving DecidableEq, Repr

/-- The bank bound to a burst copy (R45). -/
structure BankRef where
  profile : ProfileIx
  bank : BankName
deriving DecidableEq, Repr

/-! ### Bursts and head links -/

/-- A burst descriptor as received, at full field widths (R24, R26). -/
structure Descriptor where
  tag : Half
  op : Op
  r0 : Half
  c0 : BitVec 10
  n : Nat
  order : Order
  direction : Direction
  dataMode : DataMode
  d : Half
deriving DecidableEq, Repr

/-- A launch-queue entry (R45). -/
structure LaunchEntry where
  desc : Descriptor
  bound : BankRef
deriving DecidableEq, Repr

/-- An in-flight record (R52); its tag stands in its descriptor. -/
structure InFlight where
  desc : Descriptor
  bound : BankRef
  deadline : Nat
deriving DecidableEq, Repr

/-- One vector of a VECTOR_BLOCK frame (R35). -/
structure PatternVector where
  op : Op
  prow : Nat
  pcol : Nat
  pins : Nat
deriving DecidableEq, Repr

/-- The expander of a Head Port (R36). The index of the next vector follows from the time the frame began. -/
inductive Expander where
  | idle
  | sending (record : InFlight) (began : Nat)
  | control (kind : ControlKind) (began : Nat)
deriving DecidableEq, Repr

/-- How the frame check of a frame was sent (R36, R37, R190). -/
inductive CheckSent where
  | good | inverted | cutOff
deriving DecidableEq, Repr

/-- A frame toward a head (R35, R69); a VECTOR_BLOCK frame lists the vectors sent. -/
inductive HeadFrame where
  | vectorBlock (tag : Half) (n : Nat) (vectors : List PatternVector)
  | control (kind : ControlKind) (site : SiteIx)
deriving DecidableEq, Repr

/-- The latest frame that ended on a head link, and how it ended. DESIGN CHOICE: the model's own record (log entry 10). -/
structure HeadSent where
  frame : HeadFrame
  check : CheckSent
deriving DecidableEq, Repr

/-- Drive of a head link (R141). -/
inductive Drive where
  | drivenDown | enabled
deriving DecidableEq, Repr

/-- State of a Head Port: link, counters, control list, launch queue, in-flight list and expander (R36, R49, R50, R54,
R69, R141, R142). `rate` is the class that the link has run at since its training began from DOWN (R142, R148). -/
structure HeadPort where
  drive : Drive
  rate : LinkRate
  lock : LockState
  trainRun : Nat
  fineLoss : Nat
  telemetryCheck : Nat
  unknownFrames : Nat
  controlList : List ControlKind
  launchQueue : List LaunchEntry
  inFlight : List InFlight
  expander : Expander
  copied : Nat
  flushed : Nat
  launched : Nat
  sent : Option HeadSent
deriving DecidableEq, Repr

/-! ### Sites -/

/-- The configuration part of a site record (R62). -/
structure SiteConfig where
  mode : SiteMode
  retireOnUnrepairable : Bool
  failMode : FailMode
  failLimit : Nat
  responseLimit : Nat
  lockEdges : LockEdges
  gain : Nat
  errorMode : ErrorMode
  initialOffset : Nat
deriving DecidableEq, Repr

/-- The run record part of a site record (R62). The additional-cause set is held as a list without repeats in the order
of the codes, so that equal sets are equal data. -/
structure RunRecord where
  state : SiteState
  primary : Option Cause
  additional : List Cause
  mapIncomplete : Bool
  unrepairable : Bool
  failGap : Bool
  offsetSaturated : Bool
  joinGeometry : Option Geometry
  trainingLimit : Option Nat
deriving DecidableEq, Repr

/-- The Fail Mapper counters of a site (R103). -/
structure FailCounters where
  answered : Nat
  lost : Nat
  abandoned : Nat
  failingVectors : Nat
  failingBits : Nat
  malformed : Nat
  stray : Nat
  crc : Nat
deriving DecidableEq, Repr

/-- One failing cell of a region's cell list (R104). -/
structure Cell where
  row : Nat
  col : Nat
  hits : Nat
deriving DecidableEq, Repr

/-- A region record (R104). -/
structure Region where
  state : RegionState
  srRem : Nat
  scRem : Nat
  rows : List Nat
  cols : List Nat
  cells : List Cell
  covered : Nat
  ignored : Nat
  summaryPending : Bool
deriving DecidableEq, Repr

/-- A scheduled line mark (R123). -/
structure LineMark where
  due : Nat
  width : Nat
deriving DecidableEq, Repr

/-- The level of a mark line; high until the latest end of the overlapping marks (R131). -/
inductive LineState where
  | low
  | high (until_ : Nat)
deriving DecidableEq, Repr

/-- The Mark Unit's state of a site (R123). -/
structure SiteMarks where
  offset : Nat
  residual : Int
  scheduled : List LineMark
  line : LineState
deriving DecidableEq, Repr

/-- The Supply Supervisor's state of a site (R151, R152). -/
structure SiteSupply where
  latest : Option Nat
  peak : Option Nat
  blanking : Nat
  overCount : Nat
deriving DecidableEq, Repr

/-- The Report Engine's state of a site (R159, R163). -/
structure SiteReports where
  admitted : Nat
  dropped : Nat
  gapPending : Bool
  summaryPending : Bool
deriving DecidableEq, Repr

/-- A site: one lane through the hub (R1). -/
structure Site where
  config : SiteConfig
  run : RunRecord
  head : HeadPort
  mapper : FailCounters
  regions : Vector Region 16
  marks : SiteMarks
  supply : SiteSupply
  reports : SiteReports
deriving DecidableEq, Repr

/-! ### Hub blocks -/

/-- The settings of a pair (R147). -/
structure PairSettings where
  tripLevel : Nat
  deglitch : Nat
  blanking : Nat
  rate : LinkRate
deriving DecidableEq, Repr

/-- A mark setting (R125). -/
structure MarkSetting where
  mode : MarkMode
  divider : Nat
deriving DecidableEq, Repr

/-- A MULTIPLY series in progress (R128). -/
structure Series where
  next : Nat
  count : Nat
  spacing : Nat
deriving DecidableEq, Repr

/-- The hub part of the Mark Unit (R123); `monPulse` is the end of the FRAME_MARK pulse while it lasts (R139). -/
structure MarkUnit where
  setting : MarkSetting
  pendingSetting : Option MarkSetting
  lastFrameMark : Option Nat
  interval : Option Nat
  thinCount : Nat
  series : Option Series
  multTooFast : Bool
  monSelect : MonSelect
  monPulse : Option Nat
deriving DecidableEq, Repr

/-- One value of a RESPONSE data item: its width in bytes and the value (R195). -/
structure WireField where
  width : Nat
  value : Nat
deriving DecidableEq, Repr

/-- A RESPONSE data item: the values it holds, one after another; none is an absent value or an empty list (R195). -/
abbrev Item := List WireField

/-- Contents of a FAIL record (R157). -/
structure FailRecord where
  site : SiteIx
  tag : Half
  v : Nat
  prow : Nat
  pcol : Nat
  mask : Nat
  gap : Bool
deriving DecidableEq, Repr

/-- Contents of a SITE record (R157). -/
structure SiteRecord where
  site : SiteIx
  state : SiteState
  primary : Option Cause
  additional : List Cause
  lock : LockState
  mapIncomplete : Bool
  failGap : Bool
  offsetSaturated : Bool
  unrepairable : Bool
  failingVectors : Nat
deriving DecidableEq, Repr

/-- Contents of a REGION record (R157). -/
structure RegionRecord where
  site : SiteIx
  region : RegionIx
  state : RegionState
  srRem : Nat
  scRem : Nat
  rows : List Nat
  cols : List Nat
  cells : Nat
deriving DecidableEq, Repr

/-- Contents of a HUB record (R157). -/
structure HubRecord where
  hub : HubState
  flow : FlowState
  multTooFast : Bool
  outcome : TestOutcome
deriving DecidableEq, Repr

/-- Contents of a RESPONSE record (R176); `none` is data absent. -/
structure ResponseRecord where
  id : Half
  kind : Byte
  code : RespCode
  data : Option (List Item)
  overflow : Bool
deriving DecidableEq, Repr

/-- A record of the Report Queue (R157). -/
inductive Record where
  | fail (r : FailRecord)
  | site (r : SiteRecord)
  | region (r : RegionRecord)
  | hub (r : HubRecord)
  | response (r : ResponseRecord)
  | diag (group : MemoryGroup) (outcome : TestOutcome)
deriving DecidableEq, Repr

/-- A record in the queue with the time it joined, from which the coalescing timer measures (R166). -/
structure QueuedRecord where
  record : Record
  joined : Nat
deriving DecidableEq, Repr

/-- A frame sent upstream (R59, R167). -/
inductive UpFrame where
  | report (records : List Record)
  | flow (frame : FlowFrame)
deriving DecidableEq, Repr

/-- What the hub sent last on the upstream link: its end-of-training sequence (R184), or a frame and how it ended. DESIGN
CHOICE: the model's own record (log entry 10). -/
inductive UpSent where
  | endOfTraining
  | frame (frame : UpFrame) (check : CheckSent)
deriving DecidableEq, Repr

/-- The upstream link: free, or sending one frame; a report frame may be the interrupted one sent again (R59, R168). -/
inductive Upstream where
  | free
  | report (records : List Record) (again : Bool)
  | flow (frame : FlowFrame)
deriving DecidableEq, Repr

/-- The Trunk Port but for the beat detector (R59, R168, R184, R186); `sequences` counts the error-free alignment sequences
received in a row in TRAINING (R184). -/
structure TrunkPort where
  link : LinkState
  sequences : Nat
  linkLoss : Nat
  frameCheck : Nat
  unknownKind : Nat
  upstream : Upstream
  pendingFlow : Option FlowFrame
  interrupted : Option (List Record)
  sent : Option UpSent
deriving DecidableEq, Repr

/-- The beat detector (R187); `counter` is the time the beat counter was last started from 0, `none` when stopped. -/
structure BeatDetector where
  limit : Nat
  counter : Option Nat
  seen : Bool
deriving DecidableEq, Repr

/-- The Frame Sorter (R25, R42). -/
structure FrameSorter where
  lastTag : Option Half
  badDescriptors : Nat
  sequenceGaps : Nat
deriving DecidableEq, Repr

/-- The counts of the Replicator (R44, R46, R48). -/
structure Replicator where
  bursts : Nat
  idleBursts : Nat
  frameMarks : Nat
deriving DecidableEq, Repr

/-- The Report Engine but for the per-site parts (R157, R163, R166). -/
structure ReportEngine where
  queue : List QueuedRecord
  timerSetting : Nat
  hubPending : Bool
deriving DecidableEq, Repr

/-- The Management Agent (R172). -/
structure Agent where
  intake : List CtrlRequest
  outstanding : Nat
  overflows : Nat
  overflowPending : Bool
deriving DecidableEq, Repr

/-- A self-test in progress: whether it is skipped, and when it ends (R191). -/
structure SelfTest where
  skipped : Bool
  endsAt : Nat
deriving DecidableEq, Repr

/-- Why the machine stops with a fault: nothing the manual describes stops the hub, so there is no reason. -/
inductive Fault where
deriving DecidableEq, Repr

/-- Why a command has no meaning. -/
inductive Refusal where
  /-- Raised by `exec` for a row of the table that has no meaning in the model; safe, since nothing is claimed. -/
  | notModelled (mnemonic : String)
deriving DecidableEq, Repr

/-- The whole hub. `pending`, `clock` and `freeIndex` are the model's own: the commands that wait, the reading of the
reference clock in ticks, and the counter that free values are drawn with. -/
structure State where
  pending : List Instr
  clock : Nat
  freeIndex : Nat
  resetPin : Level
  hub : HubState
  selfTest : Option SelfTest
  outcome : TestOutcome
  trunk : TrunkPort
  beat : BeatDetector
  sorter : FrameSorter
  replicator : Replicator
  profiles : Vector Profile 4
  sites : Vector Site 8
  marks : MarkUnit
  pairs : Vector PairSettings 4
  report : ReportEngine
  flow : FlowState
  agent : Agent
deriving DecidableEq, Repr

/-! ### Reset values -/

/-- A zeroed geometry (R7). -/
def Geometry.zeroed : Geometry := ⟨0, 0, 0, 0, 0⟩

/-- The contents of a zeroed bank (R7). -/
def Tables.zeroed : Tables :=
  { geometry := Geometry.zeroed, map := Vector.replicate 26 ⟨0, false, none⟩, pinOrder := Vector.replicate 16 0,
    rm := 0, cm := 0, pi := 0, ck := 0 }

/-- A bank after reset, with the contents it is left with (R23). -/
def Bank.reset (contents : Tables) : Bank := ⟨false, 0, contents⟩

/-- A profile after reset, with the contents its banks are left with (R23). -/
def Profile.reset (a b : Tables) : Profile := ⟨.a, false, Bank.reset a, Bank.reset b⟩

/-- The reset contents of a region (R106). -/
def Region.reset : Region := ⟨.clean, 0, 0, [], [], [], 0, 0, false⟩

/-- The configuration of a site after reset (R62). -/
def SiteConfig.reset : SiteConfig := ⟨.disabled, false, .first, 1024, 50, .loss, 0, .oneStep, 0⟩

/-- The run record of a site after reset (R62, R83). -/
def RunRecord.reset : RunRecord := ⟨.disabled, none, [], false, false, false, false, none, none⟩

/-- A Head Port after reset (R36, R83, R141). -/
def HeadPort.reset : HeadPort :=
  { drive := .drivenDown, rate := .full, lock := .down, trainRun := 0, fineLoss := 0, telemetryCheck := 0, unknownFrames := 0,
    controlList := [], launchQueue := [], inFlight := [], expander := .idle, copied := 0, flushed := 0, launched := 0,
    sent := none }

/-- The Fail Mapper counters of a site after reset (R103). -/
def FailCounters.reset : FailCounters := ⟨0, 0, 0, 0, 0, 0, 0, 0⟩

/-- A site after reset (R83, R123, R151, R152, R159). -/
def Site.reset : Site :=
  { config := SiteConfig.reset, run := RunRecord.reset, head := HeadPort.reset, mapper := FailCounters.reset,
    regions := Vector.replicate 16 Region.reset, marks := ⟨0, 0, [], .low⟩, supply := ⟨none, none, 0, 0⟩,
    reports := ⟨0, 0, false, false⟩ }

/-- The hub part of the Mark Unit after reset (R123). -/
def MarkUnit.reset : MarkUnit := ⟨⟨.pass, 2⟩, none, none, none, 0, none, false, .none, none⟩

/-- The Trunk Port after power-on (R184, R186). DESIGN CHOICE for what R59 and R190 leave open while the link is not UP: no flow
frame is pending right after a reset (log entry 7). -/
def TrunkPort.reset : TrunkPort := ⟨.down, 0, 0, 0, 0, .free, none, none, none⟩

/-- The hub right after power-on: every block at its reset values, every bank zeroed, the self-test running (R190,
R191). DESIGN CHOICE for the values the manual does not state (log entry 7). -/
def State.reset : State :=
  { pending := []
    clock := 0
    freeIndex := 0
    resetPin := .high
    hub := .selftest
    selfTest := some ⟨false, Config.selfTestTicks⟩
    outcome := .pass
    trunk := TrunkPort.reset
    beat := ⟨0, none, false⟩
    sorter := ⟨none, 0, 0⟩
    replicator := ⟨0, 0, 0⟩
    profiles := Vector.replicate 4 (Profile.reset Tables.zeroed Tables.zeroed)
    sites := Vector.replicate 8 Site.reset
    marks := MarkUnit.reset
    pairs := Vector.replicate 4 ⟨4095, 4, 20, .full⟩
    report := ⟨[], 1, false⟩
    flow := .flowing
    agent := ⟨[], 0, 0, false⟩ }

end Sys2Proof.Machine
end

