-- ==== Sys2Proof/Machine/Codes.lean ====
section
/-! DEFINITION. The codes of the named values: the position of each value in the table or list where the manual first gives
its set, counting from 01H (R194), and the codes R195 to R198 give themselves. -/
namespace Sys2Proof.Machine

/-- The op that a code names (R24). -/
def Op.ofCode (c : Byte) : Option Op :=
  if c = 1 then some .write else if c = 2 then some .readCompare else if c = 3 then some .readOnly else none

/-- The code of an op (R24). -/
def Op.code : Op → Nat
  | .write => 1 | .readCompare => 2 | .readOnly => 3

/-- The order that a code names (R24). -/
def Order.ofCode (c : Byte) : Option Order :=
  if c = 1 then some .colFast else if c = 2 then some .rowFast else none

/-- The direction that a code names (R24). -/
def Direction.ofCode (c : Byte) : Option Direction :=
  if c = 1 then some .up else if c = 2 then some .down else none

/-- The data mode that a code names (R24). -/
def DataMode.ofCode (c : Byte) : Option DataMode :=
  if c = 1 then some .solid else if c = 2 then some .alternate else none

/-- The code of a site state (R61). -/
def SiteState.code : SiteState → Nat
  | .disabled => 1 | .training => 2 | .idle => 3 | .armed => 4 | .primed => 5 | .active => 6 | .draining => 7
  | .retired => 8 | .released => 9

/-- The code of a cause (R71). -/
def Cause.code : Cause → Nat
  | .requested => 1 | .unrepairable => 2 | .patternLoss => 3 | .silent => 4 | .overcurrent => 5 | .linkLost => 6
  | .trainFail => 7

/-- The kind of a cause (R71). -/
def Cause.kind : Cause → CauseKind
  | .requested | .unrepairable | .patternLoss => .draining
  | .silent | .overcurrent | .linkLost => .abandoning
  | .trainFail => .neither

/-- A set of causes as one byte: bit (code − 1) is set for each member (R194). -/
def causeBits (cs : List Cause) : Nat := (cs.map fun c => 2 ^ (c.code - 1)).sum

/-- The code of a response code (R177). -/
def RespCode.code : RespCode → Nat
  | .ok => 1 | .badRequest => 2 | .badState => 3 | .bankBusy => 4 | .swapPending => 5 | .mapInvalid => 6
  | .geometryLocked => 7 | .noProfile => 8

/-- The code of a hub state (R194). -/
def HubState.code : HubState → Nat
  | .selftest => 1 | .ready => 2 | .holdover => 3

/-- The code of a self-test outcome (R194). -/
def TestOutcome.code : TestOutcome → Nat
  | .pass => 1 | .fail => 2 | .skipped => 3

/-- The code of a DIAG memory group (R194). -/
def MemoryGroup.code : MemoryGroup → Nat
  | .profile => 1 | .queues => 2 | .regions => 3 | .report => 4 | .all => 5

/-- The code of a flow state (R197). -/
def FlowState.code : FlowState → Nat
  | .flowing => 1 | .held => 2

/-- The code of a flow frame (R195). -/
def FlowFrame.code : FlowFrame → Nat
  | .hold => 1 | .release => 2

/-- The code of a lock state (R197). -/
def LockState.code : LockState → Nat
  | .down => 1 | .coarse => 2 | .fine => 3

/-- The code of a region state (R197). -/
def RegionState.code : RegionState → Nat
  | .clean => 1 | .tracking => 2 | .unrepairable => 3

/-- The code of a bank name (R196). -/
def BankName.code : BankName → Nat
  | .a => 1 | .b => 2

/-- The bank that a code names (R196). -/
def BankName.ofCode (c : Nat) : Option BankName :=
  if c = 1 then some .a else if c = 2 then some .b else none

/-- The code of a fail-record mode (R196). -/
def FailMode.code : FailMode → Nat
  | .off => 1 | .first => 2 | .all => 3

/-- The fail-record mode that a code names (R196). -/
def FailMode.ofCode (c : Nat) : Option FailMode :=
  if c = 1 then some .off else if c = 2 then some .first else if c = 3 then some .all else none

/-- The code of a lock-report edges setting (R145, R194). -/
def LockEdges.code : LockEdges → Nat
  | .none => 1 | .gain => 2 | .loss => 3 | .both => 4

/-- The lock-report edges setting that a code names (R145, R194). -/
def LockEdges.ofCode (c : Nat) : Option LockEdges :=
  if c = 1 then some .none else if c = 2 then some .gain else if c = 3 then some .loss
  else if c = 4 then some .both else Option.none

/-- The code of an error limit mode (R196). -/
def ErrorMode.code : ErrorMode → Nat
  | .oneStep => 1 | .actual => 2

/-- The error limit mode that a code names (R196). -/
def ErrorMode.ofCode (c : Nat) : Option ErrorMode :=
  if c = 1 then some .oneStep else if c = 2 then some .actual else none

/-- The code of a link rate class (R198). -/
def LinkRate.code : LinkRate → Nat
  | .full => 1 | .half => 2

/-- The link rate class that a code names (R198). -/
def LinkRate.ofCode (c : Nat) : Option LinkRate :=
  if c = 1 then some .full else if c = 2 then some .half else none

/-- The code of a mark mode (R123, R194). -/
def MarkMode.code : MarkMode → Nat
  | .pass => 1 | .thin => 2 | .multiply => 3

/-- The mark mode that a code names (R123, R194). -/
def MarkMode.ofCode (c : Nat) : Option MarkMode :=
  if c = 1 then some .pass else if c = 2 then some .thin else if c = 3 then some .multiply else none

/-- The two values of a site mode item: mode and profile index (R196). -/
def SiteMode.codes : SiteMode → Nat × Nat
  | .disabled => (1, 0) | .profile k => (2, k.val)

/-- The site mode that two values name; the index of DISABLED is ignored (R196). -/
def SiteMode.ofCodes (mode index : Nat) : Option SiteMode :=
  if mode = 1 then some .disabled
  else if mode = 2 then (if h : index < 4 then some (.profile ⟨index, h⟩) else none) else none

/-- The two values of a MON select item: source and site (R196). -/
def MonSelect.codes : MonSelect → Nat × Nat
  | .none => (1, 0) | .frameMark => (2, 0) | .site s => (3, s.val) | .held => (4, 0) | .holdover => (5, 0)

/-- The MON select that two values name; the site of a source other than SITE is ignored (R196). -/
def MonSelect.ofCodes (source site : Nat) : Option MonSelect :=
  if source = 1 then some .none
  else if source = 2 then some .frameMark
  else if source = 3 then (if h : site < 8 then some (.site ⟨site, h⟩) else Option.none)
  else if source = 4 then some .held
  else if source = 5 then some .holdover else Option.none

/-- Kind byte of a control frame (R198). -/
def ControlKind.kindByte : ControlKind → Byte
  | .powerOn => 0x12 | .cut => 0x13 | .release => 0x14

/-- The request kinds by code: the table of 10.4, HUB_RESET 01H to RESUME 10H (R194). -/
def requestKinds : List Byte := [1, 2, 3, 4, 5, 6, 7, 8, 9, 10, 11, 12, 13, 14, 15, 16]

/-- A flag byte, 00H for clear and 01H for set (R197). -/
def flagCode (b : Bool) : Nat := if b then 1 else 0

end Sys2Proof.Machine
end

