-- ==== Sys2Proof/Machine/Access.lean ====
section
/-! DEFINITION. Reading and changing one site, one profile or one bank of the state. -/
namespace Sys2Proof.Machine

/-- Site `i` of the hub (R1). -/
def State.site (s : State) (i : SiteIx) : Site := s.sites[i]

/-- The state with site `i` changed by `f`. -/
def State.modSite (s : State) (i : SiteIx) (f : Site → Site) : State :=
  { s with sites := s.sites.set i (f s.sites[i]) }

/-- The state with the run record of site `i` changed by `f` (R62). -/
def State.modRun (s : State) (i : SiteIx) (f : RunRecord → RunRecord) : State :=
  s.modSite i fun x => { x with run := f x.run }

/-- The state with the configuration of site `i` changed by `f` (R62). -/
def State.modConfig (s : State) (i : SiteIx) (f : SiteConfig → SiteConfig) : State :=
  s.modSite i fun x => { x with config := f x.config }

/-- The state with the Head Port of site `i` changed by `f`. -/
def State.modHead (s : State) (i : SiteIx) (f : HeadPort → HeadPort) : State :=
  s.modSite i fun x => { x with head := f x.head }

/-- The state with the Fail Mapper counters of site `i` changed by `f` (R103). -/
def State.modMapper (s : State) (i : SiteIx) (f : FailCounters → FailCounters) : State :=
  s.modSite i fun x => { x with mapper := f x.mapper }

/-- The state with the Mark Unit's part of site `i` changed by `f` (R123). -/
def State.modMarks (s : State) (i : SiteIx) (f : SiteMarks → SiteMarks) : State :=
  s.modSite i fun x => { x with marks := f x.marks }

/-- The state with the Supply Supervisor's part of site `i` changed by `f` (R151, R152). -/
def State.modSupply (s : State) (i : SiteIx) (f : SiteSupply → SiteSupply) : State :=
  s.modSite i fun x => { x with supply := f x.supply }

/-- The state with the Report Engine's part of site `i` changed by `f` (R159). -/
def State.modReports (s : State) (i : SiteIx) (f : SiteReports → SiteReports) : State :=
  s.modSite i fun x => { x with reports := f x.reports }

/-- The state with region `g` of site `i` changed by `f` (R104). -/
def State.modRegion (s : State) (i : SiteIx) (g : RegionIx) (f : Region → Region) : State :=
  s.modSite i fun x => { x with regions := x.regions.set g (f x.regions[g]) }

/-- Profile `k` of the store (R3). -/
def State.profile (s : State) (k : ProfileIx) : Profile := s.profiles[k]

/-- The state with profile `k` changed by `f`. -/
def State.modProfile (s : State) (k : ProfileIx) (f : Profile → Profile) : State :=
  { s with profiles := s.profiles.set k (f s.profiles[k]) }

/-- The other bank of a profile (R3). -/
def BankName.other : BankName → BankName
  | .a => .b
  | .b => .a

/-- A bank of a profile by name (R3). -/
def Profile.bank (p : Profile) : BankName → Bank
  | .a => p.bankA
  | .b => p.bankB

/-- The profile with one bank changed by `f`. -/
def Profile.modBank (p : Profile) (name : BankName) (f : Bank → Bank) : Profile :=
  match name with
  | .a => { p with bankA := f p.bankA }
  | .b => { p with bankB := f p.bankB }

/-- The standby bank's name: the bank the active-bank pointer does not name (R3). -/
def Profile.standby (p : Profile) : BankName := p.active.other

/-- The active bank of a profile (R3). -/
def Profile.activeBank (p : Profile) : Bank := p.bank p.active

/-- The standby bank of a profile (R3). -/
def Profile.standbyBank (p : Profile) : Bank := p.bank p.standby

/-- The bank that a bound-bank reference names (R45). -/
def State.bank (s : State) (r : BankRef) : Bank := (s.profile r.profile).bank r.bank

/-- The state with the bank of a reference changed by `f`. -/
def State.modBank (s : State) (r : BankRef) (f : Bank → Bank) : State :=
  s.modProfile r.profile fun p => p.modBank r.bank f

/-- The settings of the pair that serves site `i` (R147). -/
def State.pairOf (s : State) (i : SiteIx) : PairSettings := s.pairs[i.pair]

/-- A site in test: ARMED, PRIMED, ACTIVE or DRAINING (R61). -/
def SiteState.inTest : SiteState → Bool
  | .armed | .primed | .active | .draining => true
  | _ => false

/-- A site that line marks and the alignment loop serve: PRIMED, ACTIVE or DRAINING (R131, R136). -/
def SiteState.marked : SiteState → Bool
  | .primed | .active | .draining => true
  | _ => false

end Sys2Proof.Machine
end

