-- ==== Sys2Proof/Machine/Flags.lean ====
section
/-! DEFINITION. Counters, summary-pending flags and the Flow Monitor: what the hub counts, flags and signals. -/
namespace Sys2Proof.Machine

/-- A 32-bit saturating count raised by `k`: it stays at its largest value (R25, R98). -/
def sat32 (n k : Nat) : Nat := min (n + k) (2 ^ 32 - 1)

/-- A 48-bit wrapping counter raised by `k` (R50, R92). -/
def wrap48 (n k : Nat) : Nat := (n + k) % 2 ^ 48

/-- Sets the hub's summary-pending flag (R163). -/
def State.flagHub (s : State) : State := { s with report := { s.report with hubPending := true } }

/-- Sets the summary-pending flag of site `i` (R82, R163). -/
def State.flagSite (s : State) (i : SiteIx) : State :=
  s.modReports i fun r => { r with summaryPending := true }

/-- Gives MAP_INCOMPLETE to a site: a clear flag is set, and the site's summary-pending flag with it (R43). -/
def State.giveMapIncomplete (s : State) (i : SiteIx) : State :=
  if (s.site i).run.mapIncomplete then s
  else (s.modRun i fun r => { r with mapIncomplete := true }).flagSite i

/-- Some ACTIVE site's launch queue holds `n` entries or more (R57). -/
def State.someQueueAtLeast (s : State) (n : Nat) : Bool :=
  allSites.any fun i => decide ((s.site i).run.state = .active ∧ n ≤ (s.site i).head.launchQueue.length)

/-- What brings HELD: 192 records in the Report Queue, or 24 entries in an ACTIVE site's launch queue (R57). -/
def State.holdCondition (s : State) : Bool := decide (192 ≤ s.report.queue.length) || s.someQueueAtLeast 24

/-- What brings FLOWING again: fewer than 128 records, and 8 entries or fewer in every ACTIVE site's queue (R58). -/
def State.releaseCondition (s : State) : Bool := decide (s.report.queue.length < 128) && !s.someQueueAtLeast 9

/-- The flow frame that gives a flow state (R59). -/
def FlowState.frame : FlowState → FlowFrame
  | .flowing => .release
  | .held => .hold

/-- A change of flow state: its frame becomes the pending flow frame, in place of any other, and the hub's
summary-pending flag is set (R57, R58, R59). -/
def State.changeFlow (s : State) (f : FlowState) : State :=
  { s with flow := f, trunk := { s.trunk with pendingFlow := some f.frame }, report := { s.report with hubPending := true } }

/-- One reading of the flow state by the Flow Monitor (R57, R58). -/
def State.readFlow (s : State) : State :=
  match s.flow with
  | .flowing => if s.holdCondition then s.changeFlow .held else s
  | .held => if s.releaseCondition then s.changeFlow .flowing else s

end Sys2Proof.Machine
end

