-- ==== Sys2Proof/Machine/Screen.lean ====
section
/-! DEFINITION. The Repair Screen of one region: how a region record takes a fail cell event (R108 to R118). -/
namespace Sys2Proof.Machine

/-- A region during its screen passes, with the look-ahead cell while it is present (R111, R113). -/
structure ScreenWork where
  region : Region
  extra : Option (Nat × Nat)
deriving DecidableEq, Repr

/-- A value put into an ascending list without repeats. -/
def insertAsc (x : Nat) : List Nat → List Nat
  | [] => [x]
  | y :: ys => if x < y then x :: y :: ys else if x = y then y :: ys else y :: insertAsc x ys

/-- The distinct values of a list in ascending order. -/
def distinctAsc (xs : List Nat) : List Nat := xs.foldr insertAsc []

/-- The cells counted by the passes: the list and the look-ahead cell while present (R111). -/
def ScreenWork.positions (w : ScreenWork) : List (Nat × Nat) :=
  w.region.cells.map (fun x => (x.row, x.col)) ++ w.extra.toList

/-- The number of cells in row `r`, the look-ahead cell counted (R113, R114). -/
def ScreenWork.rowCount (w : ScreenWork) (r : Nat) : Nat := (w.positions.filter fun p => p.1 = r).length

/-- The number of cells in column `c`, the look-ahead cell counted (R113, R115). -/
def ScreenWork.colCount (w : ScreenWork) (c : Nat) : Nat := (w.positions.filter fun p => p.2 = c).length

/-- A region becomes UNREPAIRABLE: its state and its summary-pending flag; everything else is frozen (R117). -/
def Region.condemn (g : Region) : Region := { g with state := .unrepairable, summaryPending := true }

/-- Assigns a row: its cells leave, a spare row is used, the row joins the assigned rows (R115). -/
def ScreenWork.assignRow (w : ScreenWork) (r : Nat) : ScreenWork :=
  { region := { w.region with
      cells := w.region.cells.filter fun x => x.row ≠ r
      srRem := w.region.srRem - 1
      rows := w.region.rows ++ [r]
      summaryPending := true }
    extra := w.extra.filter fun p => p.1 ≠ r }

/-- Assigns a column: its cells leave, a spare column is used, the column joins the assigned columns (R115). -/
def ScreenWork.assignCol (w : ScreenWork) (c : Nat) : ScreenWork :=
  { region := { w.region with
      cells := w.region.cells.filter fun x => x.col ≠ c
      scRem := w.region.scRem - 1
      cols := w.region.cols ++ [c]
      summaryPending := true }
    extra := w.extra.filter fun p => p.2 ≠ c }

/-- The row scan over the given rows, in order: a forced row is assigned, or makes the region UNREPAIRABLE (R114). -/
def ScreenWork.scanRows : List Nat → ScreenWork → ScreenWork
  | [], w => w
  | r :: rest, w =>
    if w.region.scRem < w.rowCount r then
      if w.region.srRem = 0 then { w with region := w.region.condemn } else scanRows rest (w.assignRow r)
    else scanRows rest w

/-- The column scan over the given columns, in order (R115). -/
def ScreenWork.scanCols : List Nat → ScreenWork → ScreenWork
  | [], w => w
  | c :: rest, w =>
    if w.region.srRem < w.colCount c then
      if w.region.scRem = 0 then { w with region := w.region.condemn } else scanCols rest (w.assignCol c)
    else scanCols rest w

/-- The row scan of a pass: the distinct rows present, ascending (R114). -/
def ScreenWork.rowScan (w : ScreenWork) : ScreenWork := ScreenWork.scanRows (distinctAsc (w.positions.map Prod.fst)) w

/-- The column scan of a pass: the distinct columns present, ascending (R115). -/
def ScreenWork.colScan (w : ScreenWork) : ScreenWork := ScreenWork.scanCols (distinctAsc (w.positions.map Prod.snd)) w

/-- The region has been found UNREPAIRABLE. -/
def ScreenWork.dead (w : ScreenWork) : Bool := decide (w.region.state = .unrepairable)

/-- The number of lines assigned so far. -/
def ScreenWork.assigned (w : ScreenWork) : Nat := w.region.rows.length + w.region.cols.length

/-- One pass: a row scan and then a column scan, unless the row scan finds the region UNREPAIRABLE (R113). -/
def ScreenWork.pass (w : ScreenWork) : ScreenWork := if w.rowScan.dead then w.rowScan else w.rowScan.colScan

/-- The screen passes: another pass follows each pass that assigns a line, at most `fuel` in all; each such pass uses a
spare, so one pass more than there are spares is enough (R113). -/
def ScreenWork.passes : Nat → ScreenWork → ScreenWork
  | 0, w => w
  | fuel + 1, w => if w.pass.dead || w.pass.assigned == w.assigned then w.pass else passes fuel w.pass

/-- The bound check after the passes: more cells than 2·SR_rem·SC_rem make the region UNREPAIRABLE (R116). -/
def Region.boundCheck (g : Region) : Region :=
  if g.state ≠ .unrepairable ∧ 2 * g.srRem * g.scRem < g.cells.length then g.condemn else g

/-- The passes and the bound check that follow an append or a look-ahead that holds (R113, R116). -/
def Region.screen (g : Region) (extra : Option (Nat × Nat)) : Region :=
  (ScreenWork.passes (g.srRem + g.scRem + 1) ⟨g, extra⟩).region.boundCheck

/-- Appends a cell; a CLEAN region becomes TRACKING, which sets its summary-pending flag (R112). -/
def Region.append (g : Region) (r c : Nat) : Region :=
  { g with
    cells := g.cells ++ [⟨r, c, 1⟩]
    state := if g.state = .clean then .tracking else g.state
    summaryPending := g.summaryPending || decide (g.state = .clean) }

/-- The look-ahead at a full list holds: the new cell's row or column would exceed its limit (R111). -/
def Region.lookAhead (g : Region) (r c : Nat) : Bool :=
  decide (g.scRem < (ScreenWork.mk g none).rowCount r + 1) || decide (g.srRem < (ScreenWork.mk g none).colCount c + 1)

/-- A duplicate hit: the hits of the cell at the position rise, up to 255 (R110). -/
def Region.hit (g : Region) (r c : Nat) : Region :=
  { g with cells := g.cells.map fun x => if x.row = r ∧ x.col = c then { x with hits := min (x.hits + 1) 255 } else x }

/-- A region takes one fail cell event: covered check, duplicate check, full-list look-ahead, append, screen passes and
bound check (R108 to R116); a region in UNREPAIRABLE counts it as ignored (R118). -/
def Region.takeEvent (g : Region) (r c : Nat) : Region :=
  if g.state = .unrepairable then { g with ignored := sat32 g.ignored 1 }
  else if r ∈ g.rows ∨ c ∈ g.cols then { g with covered := sat32 g.covered 1 }
  else if g.cells.any (fun x => decide (x.row = r ∧ x.col = c)) then g.hit r c
  else if g.cells.length < 32 then (g.append r c).screen none
  else if g.lookAhead r c then g.screen (some (r, c))
  else g.condemn

end Sys2Proof.Machine
end

