-- ==== Sys2Proof/Machine/Translate.lean ====
section
/-! DEFINITION. Burst expansion and address translation: from a burst descriptor and a bank's tables to the vectors of a
VECTOR_BLOCK frame (R26 to R35). The expander and the Fail Mapper share this arithmetic (R39). -/
namespace Sys2Proof.Machine

/-- Number of one bits among the low `w` bits (R2). -/
def popcount (w n : Nat) : Nat := ((List.range w).filter fun k => n.testBit k).length

/-- Parity of the low `w` bits: whether the number of one bits is odd (R2). -/
def parity (w n : Nat) : Bool := popcount w n % 2 == 1

/-- The number whose bit `k` is `f k` for `k` below `w`, and 0 above. -/
def ofBits (w : Nat) (f : Nat → Bool) : Nat := ((List.range w).map fun k => if f k then 2 ^ k else 0).sum

/-- The logical address width N = RB + CB (R4). -/
def Geometry.n (g : Geometry) : Nat := g.rb + g.cb

/-- Each geometry field in its range (R4). -/
def Geometry.inRange (g : Geometry) : Bool :=
  decide (8 ≤ g.rb ∧ g.rb ≤ 16 ∧ 4 ≤ g.cb ∧ g.cb ≤ 10 ∧ (g.w = 4 ∨ g.w = 8 ∨ g.w = 16) ∧ g.sr ≤ 4 ∧ g.sc ≤ 4)

/-- The start row: r0 mod 2^RB (R26). -/
def startRow (g : Geometry) (d : Descriptor) : Nat := d.r0.toNat % 2 ^ g.rb

/-- The start column: c0 mod 2^CB (R26). -/
def startCol (g : Geometry) (d : Descriptor) : Nat := d.c0.toNat % 2 ^ g.cb

/-- The data word: D mod 2^W (R26). -/
def dataWord (g : Geometry) (d : Descriptor) : Nat := d.d.toNat % 2 ^ g.w

/-- One step count `v` from a start value, modulo 2^N, in the walk's direction (R27, R28). -/
def walk (direction : Direction) (width start v : Nat) : Nat :=
  match direction with
  | .up => (start + v) % 2 ^ width
  | .down => (((start : Int) - (v : Int)) % ((2 ^ width : Nat) : Int)).toNat

/-- The logical address of vector `v`: the column fast for COL_FAST (R27), the row fast for ROW_FAST (R28). -/
def logicalAddr (g : Geometry) (d : Descriptor) (v : Nat) : Nat :=
  match d.order with
  | .colFast => walk d.direction g.n (startRow g d * 2 ^ g.cb + startCol g d) v
  | .rowFast =>
    let t := walk d.direction g.n (startCol g d * 2 ^ g.rb + startRow g d) v
    t % 2 ^ g.rb * 2 ^ g.cb + t / 2 ^ g.rb

/-- The map entry of physical bit `i` (R5). -/
def Tables.entry (t : Tables) (i : Nat) : MapEntry := t.map.toList.getD i ⟨0, false, none⟩

/-- One physical address bit: `source` XOR `invert` XOR `partner` when present (R5). -/
def MapEntry.bit (e : MapEntry) (l : Nat) : Bool :=
  Bool.xor (Bool.xor (l.testBit e.source) e.invert) (e.partner.elim false l.testBit)

/-- The physical address of a logical address through the address map (R31). -/
def physAddr (t : Tables) (l : Nat) : Nat := ofBits t.geometry.n fun i => (t.entry i).bit l

/-- The physical row of vector `v` (R31). -/
def physRow (t : Tables) (d : Descriptor) (v : Nat) : Nat :=
  physAddr t (logicalAddr t.geometry d v) / 2 ^ t.geometry.cb

/-- The physical column of vector `v` (R31). -/
def physCol (t : Tables) (d : Descriptor) (v : Nat) : Nat :=
  physAddr t (logicalAddr t.geometry d v) % 2 ^ t.geometry.cb

/-- The pattern data of vector `v`: D, or its W-bit complement at odd `v` in ALTERNATE (R30). -/
def patternData (g : Geometry) (d : Descriptor) (v : Nat) : Nat :=
  match d.dataMode with
  | .solid => dataWord g d
  | .alternate => if v % 2 = 0 then dataWord g d else 2 ^ g.w - 1 - dataWord g d

/-- The inversion flag of a cell (R32). -/
def inversion (t : Tables) (prow pcol : Nat) : Bool :=
  Bool.xor (parity t.geometry.rb (prow &&& t.rm.toNat)) (parity t.geometry.cb (pcol &&& t.cm.toNat))

/-- The pin that data bit `d` drives (R6). -/
def Tables.pinOf (t : Tables) (d : Nat) : Nat := t.pinOrder.toList.getD d 0

/-- The pin data of a pattern word: data bit d, XOR f, XOR the pin's PI bit, on the pin of d (R33). -/
def pinData (t : Tables) (data : Nat) (f : Bool) : Nat :=
  (List.range t.geometry.w).foldl
    (fun pins d =>
      pins ||| (if Bool.xor (Bool.xor (data.testBit d) f) (t.pi.getLsbD (t.pinOf d)) then 2 ^ t.pinOf d else 0)) 0

/-- Vector `v` of a burst, as its VECTOR_BLOCK frame carries it; READ_ONLY carries 0 on every pin (R34, R35). -/
def vectorAt (t : Tables) (d : Descriptor) (v : Nat) : PatternVector :=
  { op := d.op
    prow := physRow t d v
    pcol := physCol t d v
    pins := if d.op = .readOnly then 0
      else pinData t (patternData t.geometry d v) (inversion t (physRow t d v) (physCol t d v)) }

/-- The first `k` vectors of a burst, in the order they are sent (R35). -/
def vectorsOf (t : Tables) (d : Descriptor) (k : Nat) : List PatternVector := (List.range k).map (vectorAt t d)

/-- The region of a physical row: floor(prow / 2^(RB−4)), its four highest bits (R100). -/
def regionOf (g : Geometry) (prow : Nat) : RegionIx :=
  ⟨prow / 2 ^ (g.rb - 4) % 16, Nat.mod_lt _ (by decide)⟩

/-- The region row of a physical row (R100). -/
def regionRow (g : Geometry) (prow : Nat) : Nat := prow % 2 ^ (g.rb - 4)

/-- The cell column of a pin in a physical column: pcol·W + k (R100). -/
def cellCol (g : Geometry) (pcol k : Nat) : Nat := pcol * g.w + k

end Sys2Proof.Machine
end

