-- ==== Sys2Proof/Machine/Ops.lean ====
section
/-! DEFINITION. The shared operations of the hub's commands: the clock, bank references, the expander and control list of a
Head Port, causes and what they do to a site, the site clear, line marks, admission to the Report Queue. -/
namespace Sys2Proof.Machine

/-! ### Commands and the clock -/

/-- What every command answers: its effect, or no change while the RESET pin is held low, when the hub stays in reset and
nothing reaches a block (R190). DEDUCED (log entry 12). -/
def live (s : State) (f : State → State) : Host.Outcome State Fault Refusal :=
  .next (if s.resetPin = .low then s else f s)

/-- The clock at `t` or later: an event whose time is `t` is being taken. DESIGN CHOICE (log entry 2). -/
def State.reach (s : State) (t : Nat) : State := { s with clock := max s.clock t }

/-- The hub takes downstream frames that pass their check: link UP, and not in SELFTEST (R186). -/
def State.receives (s : State) : Bool := decide (s.trunk.link = .up ∧ s.hub ≠ .selftest)

/-! ### Bank references (R14) -/

/-- One more copy bound to a bank. -/
def State.addRef (s : State) (r : BankRef) : State := s.modBank r fun x => { x with refCount := x.refCount + 1 }

/-- One copy bound to a bank leaves the hub's keeping. -/
def State.dropRef (s : State) (r : BankRef) : State := s.modBank r fun x => { x with refCount := x.refCount - 1 }

/-- Each copy of a list leaves the hub's keeping. -/
def State.dropRefs (s : State) (rs : List BankRef) : State := rs.foldl State.dropRef s

/-! ### The expander -/

/-- One header time, equal to one vector time: 1 µs at FULL, 2 µs at HALF (R55), in ticks. -/
def LinkRate.unit : LinkRate → Nat
  | .full => Config.ticksPerUs
  | .half => 2 * Config.ticksPerUs

/-- The index of the next vector to be sent, `elapsed` ticks after the frame began: the header first, then one vector in
each vector time (R36, R55). DEDUCED: the index follows from the time (log entry 27). -/
def nextVector (unit elapsed n : Nat) : Nat := min n (elapsed / unit - 1)

/-- The index of the next vector of the frame that site `i` is sending (R36). -/
def State.nextIndex (s : State) (i : SiteIx) (record : InFlight) (began : Nat) : Nat :=
  nextVector (s.site i).head.rate.unit (s.clock - began) record.desc.n

/-- Ends the frame that the expander of site `i` is sending, with the check as said; the expander becomes idle. The
vectors sent are those before the next index (R36, R37). -/
def State.endFrame (s : State) (i : SiteIx) (check : CheckSent) : State :=
  match (s.site i).head.expander with
  | .idle => s
  | .sending record began =>
    s.modHead i fun h => { h with
      expander := .idle
      sent := some ⟨.vectorBlock record.desc.tag record.desc.n
        (vectorsOf (s.bank record.bound).tables record.desc (s.nextIndex i record began)), check⟩ }
  | .control kind _ => s.modHead i fun h => { h with expander := .idle, sent := some ⟨.control kind i, check⟩ }

/-- Ends a VECTOR_BLOCK frame at once with its check inverted, when its record leaves the in-flight list (R37). -/
def State.abortBlock (s : State) (i : SiteIx) : State :=
  match (s.site i).head.expander with
  | .sending _ _ => s.endFrame i .inverted
  | _ => s

/-! ### Control frames and the link -/

/-- A control frame joins the tail of the list; a CUT raised while a POWER_ON waits removes it and is not added (R69). -/
def raiseOn (frames : List ControlKind) (kind : ControlKind) : List ControlKind :=
  if kind = .cut ∧ .powerOn ∈ frames then frames.erase .powerOn else frames ++ [kind]

/-- A Head Port raises a control frame (R69). -/
def State.raiseControl (s : State) (i : SiteIx) (kind : ControlKind) : State :=
  s.modHead i fun h => { h with controlList := raiseOn h.controlList kind }

/-- The head link is driven or taken down: a frame being sent ends, the lock state is DOWN, the control list is empty,
and the latest current is absent; this is no loss of lock (R64, R81, R141, R151). DESIGN CHOICE: a frame being sent is cut
off without its check (log entry 23). -/
def State.linkDown (s : State) (i : SiteIx) : State :=
  ((s.endFrame i .cutOff).modHead i fun h =>
      { h with drive := .drivenDown, lock := .down, trainRun := 0, controlList := [] }).modSupply i
    fun p => { p with latest := none }

/-- The head link of a site that starts training from a driven-down link: enabled, in DOWN, at the rate class that the pair
has now (R66, R141, R142). DEDUCED: the class is taken where training begins (log entry 24). -/
def State.linkUp (s : State) (i : SiteIx) : State :=
  s.modHead i fun h => { h with drive := .enabled, rate := (s.pairOf i).rate, lock := .down, trainRun := 0 }

/-! ### Site states -/

/-- A change of a site's state, which sets its summary-pending flag (R82). -/
def State.enter (s : State) (i : SiteIx) (st : SiteState) : State :=
  (s.modRun i fun r => { r with state := st }).flagSite i

/-- Entry to TRAINING, with a new limit of 20 ms (R66). DEDUCED: the lock state reached is kept (log entry 20). -/
def State.enterTraining (s : State) (i : SiteIx) : State :=
  (s.enter i .training).modRun i fun r => { r with trainingLimit := some (s.clock + Config.trainingLimit) }

/-- A set of causes with one more member, in the order of the codes. -/
def insertCause (c : Cause) : List Cause → List Cause
  | [] => [c]
  | d :: ds => if c.code < d.code then c :: d :: ds else if c = d then d :: ds else d :: insertCause c ds

/-- Records a raised cause: primary when none is held, else in the additional set; a change of the record sets the
summary-pending flag (R72). -/
def State.recordCause (s : State) (i : SiteIx) (c : Cause) : State :=
  match (s.site i).run.primary with
  | none => (s.modRun i fun r => { r with primary := some c }).flagSite i
  | some _ =>
    if c ∈ (s.site i).run.additional then s
    else (s.modRun i fun r => { r with additional := insertCause c r.additional }).flagSite i

/-- Flushes a site's launch queue: every entry leaves, its bank loses a reference, the flushed count rises (R49). -/
def State.flush (s : State) (i : SiteIx) : State :=
  ((s.dropRefs ((s.site i).head.launchQueue.map LaunchEntry.bound)).modHead i fun h =>
    { h with launchQueue := [], flushed := wrap48 h.flushed h.launchQueue.length })

/-- Abandons every in-flight record of a site: each leaves the list, its bank loses a reference, the abandoned count rises
(R77, R92). -/
def State.abandonRecords (s : State) (i : SiteIx) : State :=
  (((s.dropRefs ((s.site i).head.inFlight.map InFlight.bound)).modMapper i fun m =>
    { m with abandoned := wrap48 m.abandoned (s.site i).head.inFlight.length }).modHead i fun h => { h with inFlight := [] })

/-- A site leaves test for RETIRED: the state changes, a CUT is raised and the scheduled line marks are removed (R74, R76,
R77, R134). -/
def State.retire (s : State) (i : SiteIx) : State :=
  ((s.enter i .retired).raiseControl i .cut).modMarks i fun m => { m with scheduled := [] }

/-- The end of a drain: a DRAINING site whose in-flight list is empty enters RETIRED (R76). -/
def State.endDrain (s : State) (i : SiteIx) : State :=
  if (s.site i).run.state = .draining ∧ (s.site i).head.inFlight = [] then s.retire i else s

/-- A draining cause in ACTIVE: DRAINING, the launch queue flushed, and the drain ended at once when nothing is in flight
(R75). -/
def State.startDrain (s : State) (i : SiteIx) : State := ((s.enter i .draining).flush i).endDrain i

/-- An abandoning cause in ACTIVE or DRAINING: RETIRED with abandonment (R77). -/
def State.abandon (s : State) (i : SiteIx) : State :=
  (((if (s.site i).run.state = .active then s.flush i else s).abortBlock i).abandonRecords i).retire i

/-- What a raised cause does to a site by its kind and the site's state (R71), its recording included (R72). The Flow
Monitor's reading is left to `raiseCause`. -/
def State.raiseCauseQuiet (s : State) (i : SiteIx) (c : Cause) : State :=
  match (s.site i).run.state, c.kind with
  | .armed, .draining | .armed, .abandoning | .primed, .draining | .primed, .abandoning => (s.recordCause i c).retire i
  | .active, .draining => (s.recordCause i c).startDrain i
  | .active, .abandoning | .draining, .abandoning => (s.recordCause i c).abandon i
  | _, _ => s.recordCause i c

/-- A cause is raised against a site, and the Flow Monitor reads the flow state (R71, R75, R77). -/
def State.raiseCause (s : State) (i : SiteIx) (c : Cause) : State := (s.raiseCauseQuiet i c).readFlow

/-! ### The site clear -/

/-- The site clear of the site's own record and counters (R65, R106). -/
def Site.clear (x : Site) : Site :=
  { x with
    run := { RunRecord.reset with state := x.run.state }
    head := { x.head with
      copied := 0, flushed := 0, launched := 0, fineLoss := 0, telemetryCheck := 0, unknownFrames := 0 }
    mapper := FailCounters.reset
    regions := Vector.replicate 16 Region.reset
    marks := { x.marks with offset := x.config.initialOffset, residual := 0 }
    supply := { x.supply with peak := some 0, blanking := 0, overCount := 0 }
    reports := ⟨0, 0, false, true⟩ }

/-- The site clear (R65); it sets the site's summary-pending flag. -/
def State.siteClear (s : State) (i : SiteIx) : State := s.modSite i Site.clear

/-! ### Line marks -/

/-- A mark put into a list ordered by due time, after the marks due no later (R123). -/
def insertMark (m : LineMark) : List LineMark → List LineMark
  | [] => [m]
  | x :: xs => if m.due < x.due then m :: x :: xs else x :: insertMark m xs

/-- Schedules a line mark of a width at an instant plus the site's offset as it then stands (R131, R132). -/
def State.scheduleMark (s : State) (i : SiteIx) (instant width : Nat) : State :=
  s.modMarks i fun m => { m with scheduled := insertMark ⟨instant + m.offset, width⟩ m.scheduled }

/-- Serves a series point: a normal mark, 8 ticks wide, for each site in PRIMED, ACTIVE or DRAINING but those left out
(R131). -/
def State.seriesPointAt (s : State) (instant : Nat) (leftOut : List SiteIx) : State :=
  allSites.foldl (fun t i => if (t.site i).run.state.marked ∧ i ∉ leftOut then t.scheduleMark i instant 8 else t) s

/-! ### The Report Queue -/

/-- A record joins the Report Queue at the tail, and the Flow Monitor reads the flow state (R157, R158). -/
def State.enqueue (s : State) (r : Record) : State :=
  ({ s with report := { s.report with queue := s.report.queue ++ [⟨r, s.clock⟩] } } : State).readFlow

/-! ### Locks -/

/-- A reported lock edge sets the site's summary-pending flag (R145). -/
def State.lockEdge (s : State) (i : SiteIx) (edge : LockEdges) : State :=
  if (s.site i).config.lockEdges = edge ∨ (s.site i).config.lockEdges = .both then s.flagSite i else s

/-- A gain of FINE lock and what it does to the site (R144, R145). DESIGN CHOICE: the site takes a gain in the same step as
the link makes it, so that a loss that follows finds it taken (log entry 32). -/
def State.gainFine (s : State) (i : SiteIx) : State :=
  let t := (s.modHead i fun h => { h with lock := .fine, trainRun := 0 }).lockEdge i .gain
  if (s.site i).run.state = .training then (t.modRun i fun r => { r with trainingLimit := none }).enter i .idle else t

/-- A loss of FINE lock to DOWN or COARSE: counted, a frame being sent is ended, the edge is reported, and the site acts by
its state (R38, R143, R144, R145). -/
def State.loseFine (s : State) (i : SiteIx) (target : LockState) (run : Nat) : State :=
  let t := (((s.endFrame i .inverted).modHead i fun h =>
    { h with lock := target, trainRun := run, fineLoss := sat32 h.fineLoss 1 })).lockEdge i .loss
  match (s.site i).run.state with
  | .idle => t.enterTraining i
  | .armed | .primed | .active | .draining | .retired => t.raiseCause i .linkLost
  | .released => t.linkDown i
  | _ => t

end Sys2Proof.Machine
end

