-- ==== Sys2Proof/Machine/Reports.lean ====
section
/-! DEFINITION. The Report Engine and the upstream link: summary records, the coalescing timer, report frames and flow
frames (R59, R163 to R168, R174). -/
namespace Sys2Proof.Machine

/-! ### Summary records -/

/-- A summary-pending flag: the hub's, a site's or a region's (R163). -/
inductive SummaryFlag where
  | hub
  | site (i : SiteIx)
  | region (i : SiteIx) (g : RegionIx)
deriving DecidableEq, Repr

/-- The scan order: the hub, then each site and its regions in ascending order (R164). -/
def scanOrder : List SummaryFlag :=
  .hub :: allSites.flatMap fun i => .site i :: allRegions.map (.region i)

/-- Whether a summary-pending flag is set (R163). -/
def State.flagSet (s : State) : SummaryFlag → Bool
  | .hub => s.report.hubPending
  | .site i => (s.site i).reports.summaryPending
  | .region i g => (s.site i).regions[g].summaryPending

/-- Clears a summary-pending flag (R164). -/
def State.clearFlag (s : State) : SummaryFlag → State
  | .hub => { s with report := { s.report with hubPending := false } }
  | .site i => s.modReports i fun r => { r with summaryPending := false }
  | .region i g => s.modRegion i g fun x => { x with summaryPending := false }

/-- The SITE record of a site as it stands (R157). -/
def Site.record (x : Site) (i : SiteIx) : SiteRecord :=
  { site := i, state := x.run.state, primary := x.run.primary, additional := x.run.additional, lock := x.head.lock
    mapIncomplete := x.run.mapIncomplete, failGap := x.run.failGap, offsetSaturated := x.run.offsetSaturated
    unrepairable := x.run.unrepairable, failingVectors := x.mapper.failingVectors }

/-- The REGION record of a region as it stands (R120, R157). -/
def Region.record (x : Region) (i : SiteIx) (g : RegionIx) : RegionRecord :=
  { site := i, region := g, state := x.state, srRem := x.srRem, scRem := x.scRem, rows := x.rows, cols := x.cols
    cells := x.cells.length }

/-- The record that a summary-pending flag owes, as the block stands (R157, R164). -/
def State.summary (s : State) : SummaryFlag → Record
  | .hub => .hub ⟨s.hub, s.flow, s.marks.multTooFast, s.outcome⟩
  | .site i => .site ((s.site i).record i)
  | .region i g => .region ((s.site i).regions[g].record i g)

/-- The first set flag in scan order, while the Report Queue holds fewer than 252 records (R164, R165). -/
def State.owed (s : State) : Option SummaryFlag :=
  if s.report.queue.length < 252 then scanOrder.find? s.flagSet else none

/-- SUMMARY_RECORD (R164): the record of the first set flag is made, the flag clears and the record is admitted. -/
def execSummaryRecord (s : State) : Host.Outcome State Fault Refusal :=
  live s fun s => s.owed.elim s fun f => (s.clearFlag f).enqueue (s.summary f)

/-! ### Send conditions and report frames -/

/-- A record that makes a frame urgent wherever it waits: RESPONSE, HUB or SITE (R166). -/
def Record.urgent : Record → Bool
  | .response _ | .hub _ | .site _ => true
  | .fail _ | .region _ | .diag _ _ => false

/-- A RESPONSE record (R174). -/
def Record.isResponse : Record → Bool
  | .response _ => true
  | _ => false

/-- When the coalescing timer, running from the joining of the oldest record, reaches T × 10 µs; the timer decides for T of
2 and above alone (R166). -/
def State.coalescingDue (s : State) : Option Nat :=
  if s.report.timerSetting < 2 then none
  else s.report.queue.head?.map fun r => r.joined + s.report.timerSetting * Config.tenMicroseconds

/-- The send condition of the timer setting (R166). -/
def State.timerCondition (s : State) : Bool :=
  if s.report.timerSetting = 0 then decide (16 ≤ s.report.queue.length)
  else if s.report.timerSetting = 1 then decide (1 ≤ s.report.queue.length)
  else s.coalescingDue.any fun t => decide (t ≤ s.clock)

/-- An urgent condition (R166). -/
def State.urgent (s : State) : Bool :=
  (s.report.queue.any fun r => r.record.urgent) || decide (192 ≤ s.report.queue.length)

/-- The upstream link can take a frame: the trunk link UP and nothing being sent (R59, R167). -/
def TrunkPort.linkFree (t : TrunkPort) : Bool := decide (t.link = .up ∧ t.upstream = .free)

/-- The conditions of building a report frame (R167); an empty queue builds none. -/
def State.buildReady (s : State) : Bool :=
  (s.timerCondition || s.urgent)
    && decide (s.trunk.linkFree ∧ s.trunk.pendingFlow = none ∧ s.trunk.interrupted = none ∧ s.report.queue ≠ [])

/-- The records of the next report frame: up to 16 of the oldest (R167). -/
def State.nextFrame (s : State) : List Record := (s.report.queue.take 16).map QueuedRecord.record

/-- REPORT_FRAME_BUILD (R167): the oldest records leave the queue in one REPORT frame; each RESPONSE among them ends its
request's outstanding time (R174), and the flow state is read. -/
def execReportFrameBuild (s : State) : Host.Outcome State Fault Refusal :=
  live s fun s =>
    if s.buildReady then
      ({ s with
        report := { s.report with queue := s.report.queue.drop 16 }
        agent := { s.agent with
          outstanding := s.agent.outstanding - (s.nextFrame.filter Record.isResponse).length }
        trunk := { s.trunk with upstream := .report s.nextFrame false } } : State).readFlow
    else s

/-- REPORT_FRAME_SENT (R168): the frame's last byte and frame check are sent; an interrupted frame sent again is
released. -/
def execReportFrameSent (s : State) : Host.Outcome State Fault Refusal :=
  live s fun s =>
    match s.trunk.upstream with
    | .report records again =>
      { s with trunk := { s.trunk with
          upstream := .free
          sent := some (.frame (.report records) .good)
          interrupted := if again then none else s.trunk.interrupted } }
    | _ => s

/-- INTERRUPTED_REPORT_RESEND (R168): the link UP and free and the flow frame gone, the interrupted report frame is sent
again, whole; it is held until that sending completes. DEDUCED (log entry 22). -/
def execInterruptedReportResend (s : State) : Host.Outcome State Fault Refusal :=
  live s fun s =>
    match s.trunk.interrupted with
    | some records =>
      if s.trunk.linkFree ∧ s.trunk.pendingFlow = none then
        { s with trunk := { s.trunk with upstream := .report records true } }
      else s
    | none => s

/-- FLOW_FRAME_SEND (R59): the pending flow frame is sent when the link is UP and free, and the pending frame clears. -/
def execFlowFrameSend (s : State) : Host.Outcome State Fault Refusal :=
  live s fun s =>
    match s.trunk.pendingFlow with
    | some frame =>
      if s.trunk.linkFree then { s with trunk := { s.trunk with upstream := .flow frame, pendingFlow := none } } else s
    | none => s

/-- FLOW_FRAME_END (R59): a flow frame finishes sending and the upstream link becomes free. -/
def execFlowFrameEnd (s : State) : Host.Outcome State Fault Refusal :=
  live s fun s =>
    match s.trunk.upstream with
    | .flow frame => { s with trunk := { s.trunk with upstream := .free, sent := some (.frame (.flow frame) .good) } }
    | _ => s

/-- COALESCING_TIMER_EXPIRY (R166): the oldest record has waited T × 10 µs; the clock stands there, and the send condition
holds. -/
def execCoalescingTimerExpiry (s : State) : Host.Outcome State Fault Refusal :=
  live s fun s => s.coalescingDue.elim s s.reach

end Sys2Proof.Machine
end

