-- ==== Sys2Proof/Machine/Heads.lean ====
section
/-! DEFINITION. The Head Ports: launches, the frames toward the head, link training and lock, deadlines and training limits
(R36, R51 to R56, R66, R69, R93, R141 to R146). -/
namespace Sys2Proof.Machine

/-! ### Launch and the frames toward the head -/

/-- The launch conditions (R51), a waiting control frame going before any launch (R69). -/
def State.launchReady (s : State) (i : SiteIx) : Bool :=
  decide ((s.site i).run.state = .active ∧ (s.site i).head.lock = .fine ∧ s.hub ≠ .holdover
    ∧ (s.site i).head.inFlight.length < 16 ∧ (s.site i).head.expander = .idle ∧ (s.site i).head.controlList = [])

/-- The in-flight record of a launched entry, with its deadline (R52, R53). -/
def State.launchRecord (s : State) (i : SiteIx) (e : LaunchEntry) : InFlight :=
  ⟨e.desc, e.bound, s.clock + (s.site i).config.responseLimit * Config.responseStep⟩

/-- A launch of an entry that leaves `rest` behind it (R52). -/
def State.launchEntry (s : State) (i : SiteIx) (e : LaunchEntry) (rest : List LaunchEntry) : State :=
  s.modHead i fun h => { h with
    launchQueue := rest
    inFlight := h.inFlight ++ [s.launchRecord i e]
    launched := wrap48 h.launched 1
    expander := .sending (s.launchRecord i e) s.clock }

/-- LAUNCH (R51, R52): when the launch conditions hold, the oldest entry becomes an in-flight record and the expander
starts sending; the flow state is read (R57). -/
def execLaunch (i : SiteIx) (s : State) : Host.Outcome State Fault Refusal :=
  live s fun s =>
    match (s.site i).head.launchQueue with
    | e :: rest => if s.launchReady i then (s.launchEntry i e rest).readFlow else s
    | [] => s

/-- When the expander's frame ends: a VECTOR_BLOCK frame takes one header time and n vector times, a control frame one
control-frame time (R55). -/
def State.frameEnds (s : State) (i : SiteIx) : Option Nat :=
  match (s.site i).head.expander with
  | .idle => none
  | .sending record began => some (began + (record.desc.n + 1) * (s.site i).head.rate.unit)
  | .control _ began => some (began + (s.site i).head.rate.unit)

/-- VECTOR_BLOCK_END (R36): the last vector and the frame check are sent, and the expander becomes idle. -/
def execVectorBlockEnd (i : SiteIx) (s : State) : Host.Outcome State Fault Refusal :=
  live s fun s =>
    match (s.site i).head.expander with
    | .sending _ _ => (s.frameEnds i).elim s fun t => (s.reach t).endFrame i .good
    | _ => s

/-- The conditions of sending a control frame (R69). -/
def HeadPort.controlReady (h : HeadPort) : Bool := decide (h.lock = .fine ∧ h.expander = .idle)

/-- CONTROL_FRAME_SEND (R69): the oldest frame of the control list leaves it as its sending begins. -/
def execControlFrameSend (i : SiteIx) (s : State) : Host.Outcome State Fault Refusal :=
  live s fun s =>
    match (s.site i).head.controlList with
    | kind :: rest =>
      if (s.site i).head.controlReady then
        s.modHead i fun h => { h with controlList := rest, expander := .control kind s.clock }
      else s
    | [] => s

/-- A control frame has been sent; after a RELEASE frame the link of a RELEASED site is taken down (R36, R81). -/
def State.controlSent (s : State) (i : SiteIx) (kind : ControlKind) : State :=
  if kind = .release ∧ (s.site i).run.state = .released then (s.endFrame i .good).linkDown i else s.endFrame i .good

/-- CONTROL_FRAME_END (R36): the control frame finishes after one control-frame time, and the expander becomes idle. -/
def execControlFrameEnd (i : SiteIx) (s : State) : Host.Outcome State Fault Refusal :=
  live s fun s =>
    match (s.site i).head.expander with
    | .control kind _ => (s.frameEnds i).elim s fun t => (s.reach t).controlSent i kind
    | _ => s

/-! ### Training and lock -/

/-- PATTERN_RECOGNISED (R142): an enabled link in DOWN enters COARSE, with the run at 0. -/
def execPatternRecognised (i : SiteIx) (s : State) : Host.Outcome State Fault Refusal :=
  live s fun s =>
    if (s.site i).head.drive = .enabled ∧ (s.site i).head.lock = .down then
      s.modHead i fun h => { h with lock := .coarse, trainRun := 0 }
    else s

/-- A TRAIN frame that passes its check and carries this site's number (R142); the unused high bits of the number, 0..7 in
one byte, are ignored (R194; log entry 36). -/
def goodTrain (i : SiteIx) (f : Option TrainFrame) : Bool := f.any fun x => decide (x.site.toNat % 8 = i.val)

/-- A frame taken in COARSE for the run of TRAIN frames: a good one adds to it, and the fourth brings FINE; any other
ends it (R142, R146). -/
def State.coarseFrame (s : State) (i : SiteIx) (good : Bool) : State :=
  if good then
    if (s.site i).head.trainRun + 1 ≥ 4 then s.gainFine i
    else s.modHead i fun h => { h with trainRun := h.trainRun + 1 }
  else s.modHead i fun h => { h with trainRun := 0 }

/-- TRAIN_FRAME_RECEIVED (R142, R143): in COARSE the frame counts for the run; in FINE a frame that passes its check marks
a head restart, a loss of FINE lock to COARSE, and begins the run. DEDUCED: a restart frame that carries another site's number
leaves the run at 0 (log entry 20). -/
def execTrainFrameReceived (i : SiteIx) (f : Option TrainFrame) (s : State) : Host.Outcome State Fault Refusal :=
  live s fun s =>
    if (s.site i).head.drive = .enabled then
      match (s.site i).head.lock with
      | .down => s
      | .coarse => s.coarseFrame i (goodTrain i f)
      | .fine => if f.isSome then s.loseFine i .coarse (if goodTrain i f then 1 else 0) else s
    else s

/-- HEAD_SYMBOL_LOCK_LOSS (R143): the head link falls to DOWN, from FINE as a loss of FINE lock. -/
def execHeadSymbolLockLoss (i : SiteIx) (s : State) : Host.Outcome State Fault Refusal :=
  live s fun s =>
    if (s.site i).head.drive = .enabled then
      match (s.site i).head.lock with
      | .down => s
      | .coarse => s.modHead i fun h => { h with lock := .down, trainRun := 0 }
      | .fine => s.loseFine i .down 0
    else s

/-- A frame of another kind than TRAIN from the head: taken in FINE, discarded in COARSE where it ends the run, not
received in DOWN (R146). -/
def State.fromHead (s : State) (i : SiteIx) (take : State → State) : State :=
  if (s.site i).head.drive = .enabled then
    match (s.site i).head.lock with
    | .down => s
    | .coarse => s.coarseFrame i false
    | .fine => take s
  else s

/-- UNKNOWN_HEAD_FRAME (R146): a frame of an undefined kind is discarded, and in FINE it is counted. -/
def execUnknownHeadFrame (i : SiteIx) (s : State) : Host.Outcome State Fault Refusal :=
  live s fun s => s.fromHead i fun s => s.modHead i fun h => { h with unknownFrames := sat32 h.unknownFrames 1 }

/-! ### Limits -/

/-- The earliest deadline of a site's in-flight records (R93). DEDUCED (log entry 30). -/
def State.firstDeadline (s : State) (i : SiteIx) : Option Nat :=
  ((s.site i).head.inFlight.map InFlight.deadline).min?

/-- DEADLINE_EXPIRY (R93): a record's deadline passes, and cause SILENT is raised against the site. -/
def execDeadlineExpiry (i : SiteIx) (s : State) : Host.Outcome State Fault Refusal :=
  live s fun s => (s.firstDeadline i).elim s fun t => (s.reach t).raiseCause i .silent

/-- TRAIN_FAIL: the site enters RETIRED from TRAINING, its timer stopped; no CUT is sent (R66). -/
def State.trainFail (s : State) (i : SiteIx) : State :=
  (((s.recordCause i .trainFail).modRun i fun r => { r with trainingLimit := none })).enter i .retired

/-- TRAINING_LIMIT_EXPIRY (R66): the training limit runs out in TRAINING. -/
def execTrainingLimitExpiry (i : SiteIx) (s : State) : Host.Outcome State Fault Refusal :=
  live s fun s =>
    if (s.site i).run.state = .training then
      (s.site i).run.trainingLimit.elim s fun t => (s.reach t).trainFail i
    else s

end Sys2Proof.Machine
end

