-- ==== Sys2Proof/Machine/Operands.lean ====
section
/-! DEFINITION. What a request carries: the items of a CTRL body (R195, R196) read as the operands of its kind, in the order
of the table of request kinds. `none` is a body that answers BAD_REQUEST: items that do not fill it, another number of items,
another width, or a code that names no defined value (R177, R195). Indexes are read as numbers; their ranges are examined by
the requests themselves. DEDUCED: the widths of the items and the absent options (log entries 14 and 15). -/
namespace Sys2Proof.Machine

/-! ### Items -/

/-- The items of a body: a length byte and that many value bytes, again and again, filling it exactly (R195); `fuel` bounds
the number of items. -/
def itemsOf : Nat → List Byte → Option (List (List Byte))
  | _, [] => some []
  | 0, _ :: _ => none
  | fuel + 1, len :: rest =>
    if rest.length < len.toNat then none
    else (itemsOf fuel (rest.drop len.toNat)).map (rest.take len.toNat :: ·)

/-- The items of a request's body. -/
def bodyItems (r : CtrlRequest) : Option (List (List Byte)) := itemsOf r.body.length r.body

/-- A number of `w` bytes (R195). -/
def numItem (w : Nat) (item : List Byte) : Option Nat := if item.length = w then some (beNat item) else none

/-- An option: an item of length 0 is absent, any other is read by `f` (R195). -/
def optItem {α : Type} (f : List Byte → Option α) (item : List Byte) : Option (Option α) :=
  if item = [] then some none else (f item).map some

/-- A coded option of one byte: code 00H means absent, as an item of length 0 does (R194, R195). -/
def codedOption {α : Type} (ofCode : Nat → Option α) (item : List Byte) : Option (Option α) :=
  match item with
  | [] => some none
  | [c] => if c = 0 then some none else (ofCode c.toNat).map some
  | _ => none

/-- A flag byte: 00H clear, 01H set (R197). -/
def flagItem (item : List Byte) : Option Bool :=
  match item with
  | [c] => if c = 0 then some false else if c = 1 then some true else none
  | _ => none

/-! ### Operands by request kind -/

/-- HUB_RESET: the skip-self-test flag (R190). -/
def hubResetOperand (r : CtrlRequest) : Option Bool :=
  match bodyItems r with
  | some [skip] => flagItem skip
  | _ => none

/-- One index of two bytes: the operand of SWAP_PROFILE and of the four requests that name a site alone. -/
def indexOperand (r : CtrlRequest) : Option Nat :=
  match bodyItems r with
  | some [index] => numItem 2 index
  | _ => none

/-- The parts of GET_HUB (R181). -/
inductive HubPart where
  | state | counts | settings
deriving DecidableEq, Repr

/-- GET_HUB: the part (R181). -/
def getHubOperand (r : CtrlRequest) : Option HubPart :=
  match bodyItems r with
  | some [[c]] => if c = 1 then some .state else if c = 2 then some .counts else if c = 3 then some .settings else none
  | _ => none

/-- The four options of SET_HUB (R179). -/
structure SetHubOperands where
  timer : Option Nat
  beatLimit : Option Nat
  setting : Option MarkSetting
  monSelect : Option MonSelect
deriving DecidableEq, Repr

/-- A mark setting item: mode and divider, one byte each (R196). -/
def markSettingItem (item : List Byte) : Option MarkSetting :=
  match item with
  | [mode, divider] => (MarkMode.ofCode mode.toNat).map fun m => ⟨m, divider.toNat⟩
  | _ => none

/-- A MON select item: source and site, one byte each (R196). -/
def monSelectItem (item : List Byte) : Option MonSelect :=
  match item with
  | [source, site] => MonSelect.ofCodes source.toNat site.toNat
  | _ => none

/-- SET_HUB: T, BL, mark setting and MON select, each present or absent (R179). -/
def setHubOperands (r : CtrlRequest) : Option SetHubOperands :=
  match bodyItems r with
  | some [t, bl, setting, mon] => do
    let t ← optItem (numItem 2) t
    let bl ← optItem (numItem 2) bl
    let setting ← optItem markSettingItem setting
    let mon ← optItem monSelectItem mon
    return ⟨t, bl, setting, mon⟩
  | _ => none

/-- The parts of WRITE_PROFILE with their fields (R9, R10, R11). -/
inductive ProfileWrite where
  | geometry (g : Geometry)
  | map (first : Nat) (entries : List (Nat × Nat × Option Nat))
  | topology (order : List Nat) (rm cm pi ck : Nat)
deriving DecidableEq, Repr

/-- Map entries of three bytes: source, invert, partner, with FFH meaning absent (R195). -/
def mapEntries : List Byte → Option (List (Nat × Nat × Option Nat))
  | [] => some []
  | source :: invert :: partner :: rest =>
    (mapEntries rest).map ((source.toNat, invert.toNat, if partner = 0xFF#8 then none else some partner.toNat) :: ·)
  | _ => none

/-- WRITE_PROFILE: profile index, part and the fields of the part (R8 to R11). -/
def writeProfileOperands (r : CtrlRequest) : Option (Nat × ProfileWrite) :=
  match bodyItems r with
  | some [profile, [1], rb, cb, w, sr, sc] => do
    let k ← numItem 2 profile
    let rb ← numItem 2 rb
    let cb ← numItem 2 cb
    let w ← numItem 2 w
    let sr ← numItem 2 sr
    let sc ← numItem 2 sc
    return (k, .geometry ⟨rb, cb, w, sr, sc⟩)
  | some [profile, [2], first, entries] => do
    let k ← numItem 2 profile
    let first ← numItem 2 first
    let entries ← mapEntries entries
    return (k, .map first entries)
  | some [profile, [3], order, rm, cm, pi, ck] => do
    let k ← numItem 2 profile
    let rm ← numItem 2 rm
    let cm ← numItem 2 cm
    let pi ← numItem 2 pi
    let ck ← numItem 2 ck
    if order.length = 16 then some (k, .topology (order.map BitVec.toNat) rm cm pi ck) else none
  | _ => none

/-- The parts of READ_PROFILE (R13). -/
inductive ProfileRead where
  | geometry
  | map (first count : Nat)
  | topology
deriving DecidableEq, Repr

/-- READ_PROFILE: profile index, bank and part; part MAP carries a first index and a count (R13). -/
def readProfileOperands (r : CtrlRequest) : Option (Nat × BankName × ProfileRead) :=
  match bodyItems r with
  | some [profile, [bank], [1]] => do
    return (← numItem 2 profile, ← BankName.ofCode bank.toNat, .geometry)
  | some [profile, [bank], [2], first, count] => do
    return (← numItem 2 profile, ← BankName.ofCode bank.toNat, .map (← numItem 2 first) (← numItem 2 count))
  | some [profile, [bank], [3]] => do
    return (← numItem 2 profile, ← BankName.ofCode bank.toNat, .topology)
  | _ => none

/-- The fail-record option: a mode, a limit, or both (R180, R196). -/
structure FailOption where
  mode : Option FailMode
  limit : Option Nat
deriving DecidableEq, Repr

/-- A fail-record option item: the mode alone in one byte, or mode and limit in three, where mode byte 00H is a limit alone
(R196). -/
def failOptionItem (item : List Byte) : Option FailOption :=
  match item with
  | [mode] => if mode = 0 then some ⟨none, none⟩ else (FailMode.ofCode mode.toNat).map fun m => ⟨some m, none⟩
  | [mode, hi, lo] =>
    if mode = 0 then some ⟨none, some (joinHalf hi lo).toNat⟩
    else (FailMode.ofCode mode.toNat).map fun m => ⟨some m, some (joinHalf hi lo).toNat⟩
  | _ => none

/-- A site mode item: mode and profile index, one byte each (R196). -/
def siteModeItem (item : List Byte) : Option SiteMode :=
  match item with
  | [mode, index] => SiteMode.ofCodes mode.toNat index.toNat
  | _ => none

/-- The seven options of SET_SITE in the order of their table (R180). -/
structure SiteOptions where
  retire : Option Bool
  fail : Option FailOption
  response : Option Nat
  edges : Option LockEdges
  gain : Option Nat
  errorMode : Option ErrorMode
  offset : Option Nat
deriving DecidableEq, Repr

/-- SET_SITE: site index, mode and the seven options (R63, R180). -/
def setSiteOperands (r : CtrlRequest) : Option (Nat × Option SiteMode × SiteOptions) :=
  match bodyItems r with
  | some [site, mode, retire, fail, response, edges, gain, errorMode, offset] => do
    let i ← numItem 2 site
    let mode ← optItem siteModeItem mode
    let retire ← optItem flagItem retire
    let fail ← optItem failOptionItem fail
    let response ← optItem (numItem 2) response
    let edges ← codedOption LockEdges.ofCode edges
    let gain ← optItem (numItem 1) gain
    let errorMode ← codedOption ErrorMode.ofCode errorMode
    let offset ← optItem (numItem 2) offset
    return (i, mode, ⟨retire, fail, response, edges, gain, errorMode, offset⟩)
  | _ => none

/-- The four settings of SET_PAIR (R148). -/
structure PairOptions where
  tripLevel : Option Nat
  deglitch : Option Nat
  blanking : Option Nat
  rate : Option LinkRate
deriving DecidableEq, Repr

/-- SET_PAIR: pair index and the four settings (R148). -/
def setPairOperands (r : CtrlRequest) : Option (Nat × PairOptions) :=
  match bodyItems r with
  | some [pair, trip, deglitch, blanking, rate] => do
    let k ← numItem 2 pair
    let trip ← optItem (numItem 2) trip
    let deglitch ← optItem (numItem 2) deglitch
    let blanking ← optItem (numItem 2) blanking
    let rate ← codedOption LinkRate.ofCode rate
    return (k, ⟨trip, deglitch, blanking, rate⟩)
  | _ => none

/-- The parts of READ_SITE (R182). -/
inductive SitePart where
  | status | pattern | fails | supply | config
deriving DecidableEq, Repr

/-- READ_SITE: site index and part (R182). -/
def readSiteOperands (r : CtrlRequest) : Option (Nat × SitePart) :=
  match bodyItems r with
  | some [site, [c]] => do
    let i ← numItem 2 site
    let part ← if c = 1 then some SitePart.status else if c = 2 then some .pattern else if c = 3 then some .fails
      else if c = 4 then some .supply else if c = 5 then some .config else none
    return (i, part)
  | _ => none

/-- READ_REGION: site and region index (R121). -/
def readRegionOperands (r : CtrlRequest) : Option (Nat × Nat) :=
  match bodyItems r with
  | some [site, region] => do return (← numItem 2 site, ← numItem 2 region)
  | _ => none

/-- READ_CELLS: site and region index and start index (R122). -/
def readCellsOperands (r : CtrlRequest) : Option (Nat × Nat × Nat) :=
  match bodyItems r with
  | some [site, region, start] => do return (← numItem 2 site, ← numItem 2 region, ← numItem 2 start)
  | _ => none

/-- RESUME carries nothing (R189): its body is empty. -/
def resumeOperand (r : CtrlRequest) : Option Unit := if r.body = [] then some () else none

/-! ### Index ranges -/

/-- A site index in 0..7. -/
def siteOf (n : Nat) : Option SiteIx := if h : n < 8 then some ⟨n, h⟩ else none

/-- A pair index in 0..3. -/
def pairIndexOf (n : Nat) : Option PairIx := if h : n < 4 then some ⟨n, h⟩ else none

/-- A profile index in 0..3. -/
def profileOf (n : Nat) : Option ProfileIx := if h : n < 4 then some ⟨n, h⟩ else none

/-- A region index in 0..15. -/
def regionIndexOf (n : Nat) : Option RegionIx := if h : n < 16 then some ⟨n, h⟩ else none

/-! ### Data items -/

/-- A coded value or a flag, one byte (R195). -/
def Item.byte (v : Nat) : Item := [⟨1, v⟩]

/-- A flag item (R195, R197). -/
def Item.flag (b : Bool) : Item := Item.byte (flagCode b)

/-- A value of up to 16 bits, two bytes (R195). -/
def Item.half (v : Nat) : Item := [⟨2, v⟩]

/-- A 32-bit count, four bytes (R195). -/
def Item.word (v : Nat) : Item := [⟨4, v⟩]

/-- A 48-bit counter, six bytes (R195). -/
def Item.wide (v : Nat) : Item := [⟨6, v⟩]

/-- An absent value: an item of length 0 (R195). -/
def Item.absent : Item := []

/-- A value that may be absent. -/
def Item.opt {α : Type} (f : α → Item) : Option α → Item
  | some a => f a
  | none => Item.absent

/-- Values of one item that are one byte each (R196). -/
def Item.bytes (vs : List Nat) : Item := vs.map fun v => ⟨1, v⟩

/-- A list of two-byte values as one item (R195). -/
def Item.halves (vs : List Nat) : Item := vs.map fun v => ⟨2, v⟩

/-- The geometry as one item (R196). -/
def Item.geometry (g : Geometry) : Item := Item.bytes [g.rb, g.cb, g.w, g.sr, g.sc]

/-- A map entry: source, invert, partner, FFH for absent (R195). -/
def Item.mapEntry (e : MapEntry) : Item := Item.bytes [e.source, flagCode e.invert, e.partner.getD 255]

/-- A mark setting as one item (R196). -/
def Item.setting (m : MarkSetting) : Item := Item.bytes [m.mode.code, m.divider]

/-- A MON select as one item (R196). -/
def Item.mon (m : MonSelect) : Item := Item.bytes [m.codes.1, m.codes.2]

/-- A fail-record mode with its limit as one item (R196). -/
def Item.failMode (c : SiteConfig) : Item := [⟨1, c.failMode.code⟩, ⟨2, c.failLimit⟩]

/-- A gain with the error limit mode as one item (R196). -/
def Item.gain (c : SiteConfig) : Item := Item.bytes [c.gain, c.errorMode.code]

/-- A signed value of two bytes in two's complement (R192). DEDUCED: two bytes for the residual (log entry 17). -/
def Item.signedHalf (v : Int) : Item := Item.half ((BitVec.ofInt 16 v).toNat)

end Sys2Proof.Machine
end

