-- ==== Sys2Proof/Machine/Replicate.lean ====
section
/-! DEFINITION. The Frame Sorter and the Replicator: BURST frames and mark points, and the Mark Unit's part in them (R25,
R41 to R48, R124 to R133, R139). -/
namespace Sys2Proof.Machine

/-! ### BURST -/

/-- The descriptor check: a count in 1..64 and codes that name defined values (R25); bits 10..15 of c0 are ignored
(R195). -/
def descriptorOf (f : BurstFrame) : Option Descriptor :=
  match Op.ofCode f.op, Order.ofCode f.order, Direction.ofCode f.direction, DataMode.ofCode f.dataMode with
  | some op, some order, some direction, some dataMode =>
    if 1 ≤ f.n.toNat ∧ f.n.toNat ≤ 64 then
      some ⟨f.tag, op, f.r0, f.c0.setWidth 10, f.n.toNat, order, direction, dataMode, f.d⟩
    else none
  | _, _, _, _ => none

/-- The burst's tag breaks the sequence: a last tag is held and the burst's tag is not that tag plus 1 (R42). -/
def State.tagGap (s : State) (tag : Half) : Bool := s.sorter.lastTag.elim false fun last => decide (tag ≠ last + 1)

/-- A sequence gap: counted, and every ACTIVE site receives MAP_INCOMPLETE (R42). -/
def State.sequenceGap (s : State) : State :=
  allSites.foldl (fun t i => if (t.site i).run.state = .active then t.giveMapIncomplete i else t)
    { s with sorter := { s.sorter with sequenceGaps := sat32 s.sorter.sequenceGaps 1 } }

/-- The tag continuity check, after which the burst's tag is the last tag seen (R42). -/
def State.tagCheck (s : State) (tag : Half) : State :=
  let t := if s.tagGap tag then s.sequenceGap else s
  { t with sorter := { t.sorter with lastTag := some tag } }

/-- The bank a site's copy is bound to: the active bank of its profile (R45). -/
def State.bindingOf (s : State) (i : SiteIx) : Option BankRef :=
  match (s.site i).config.mode with
  | .profile k => some ⟨k, (s.profile k).active⟩
  | .disabled => none

/-- The Replicator appends a copy to a site's launch queue (R44, R45). -/
def State.copyBurst (s : State) (i : SiteIx) (d : Descriptor) : State :=
  (s.bindingOf i).elim s fun r =>
    (s.addRef r).modHead i fun h =>
      { h with launchQueue := h.launchQueue ++ [⟨d, r⟩], copied := wrap48 h.copied 1 }

/-- One site at a burst: an ACTIVE site with room takes a copy, an ACTIVE site without retires with PATTERN_LOSS, any other
site is left as it is (R44, R47). -/
def State.offerBurst (d : Descriptor) (s : State) (i : SiteIx) : State :=
  if (s.site i).run.state = .active then
    if (s.site i).head.launchQueue.length < 32 then s.copyBurst i d else s.raiseCauseQuiet i .patternLoss
  else s

/-- Some site is ACTIVE (R46). -/
def State.someActive (s : State) : Bool := allSites.any fun i => decide ((s.site i).run.state = .active)

/-- The Replicator takes a burst: counted, copied to the ACTIVE sites or counted idle, and the flow state read once
(R44, R46). -/
def State.replicate (s : State) (d : Descriptor) : State :=
  let t : State := { s with replicator := { s.replicator with bursts := sat32 s.replicator.bursts 1 } }
  if s.someActive then (allSites.foldl (State.offerBurst d) t).readFlow
  else { t with replicator := { t.replicator with idleBursts := sat32 t.replicator.idleBursts 1 } }

/-- BURST (R25, R42, R44): the descriptor check, the tag continuity check and the Replicator's copying. -/
def execBurst (f : BurstFrame) (s : State) : Host.Outcome State Fault Refusal :=
  live s fun s =>
    if s.receives then
      match descriptorOf f with
      | some d => (s.tagCheck d.tag).replicate d
      | none => { s with sorter := { s.sorter with badDescriptors := sat32 s.sorter.badDescriptors 1 } }
    else s

/-! ### The mark point -/

/-- A pending swap is performed: the pointer flips and the flag clears (R21). -/
def Profile.swap (p : Profile) : Profile :=
  if p.pendingSwap then { p with active := p.active.other, pendingSwap := false } else p

/-- Every pending swap is performed (R21). -/
def State.performSwaps (s : State) : State := allProfiles.foldl (fun t k => t.modProfile k Profile.swap) s

/-- One site at a mark point: PRIMED enters ACTIVE, ARMED enters PRIMED (R48, R70). -/
def State.promote (s : State) (i : SiteIx) : State :=
  match (s.site i).run.state with
  | .primed => s.enter i .active
  | .armed => s.enter i .primed
  | _ => s

/-- The width of a site's lifecycle mark by the state it comes from: an ARMING mark for a site that enters PRIMED, a normal
mark for a site that enters ACTIVE (R132). -/
def lifecycleWidth : SiteState → Option Nat
  | .armed => some 32
  | .primed => some 8
  | _ => none

/-- The sites that a mark point moves, with the widths of their lifecycle marks (R48, R132). -/
def State.moved (s : State) : List (SiteIx × Nat) :=
  allSites.filterMap fun i => (lifecycleWidth (s.site i).run.state).map fun w => (i, w)

/-- A pending mark setting takes effect: the thin count becomes 0, and leaving MULTIPLY clears MULT_TOO_FAST (R125). -/
def MarkUnit.takeSetting (m : MarkUnit) : MarkUnit :=
  match m.pendingSetting with
  | some p => { m with
      setting := p
      pendingSetting := none
      thinCount := 0
      multTooFast := m.multTooFast && !decide (m.setting.mode = .multiply ∧ p.mode ≠ .multiply) }
  | none => m

/-- The interval is measured at a frame mark, and the instant becomes the last frame mark time (R124). -/
def MarkUnit.measure (m : MarkUnit) (now : Nat) : MarkUnit :=
  { m with
    interval := match m.lastFrameMark with
      | some last => some (min (now - last) (2 ^ 32 - 1))
      | none => m.interval
    lastFrameMark := some now }

/-- A frame mark served as a fallback: one series point and MULT_TOO_FAST, which sets the hub's summary-pending flag when
it was clear (R129). -/
def State.fallBack (s : State) (leftOut : List SiteIx) : State :=
  let t := s.seriesPointAt s.clock leftOut
  if s.marks.multTooFast then t else { t.flagHub with marks := { t.marks with multTooFast := true } }

/-- A series begun: point 0 served, point 1 next, MULT_TOO_FAST cleared (R128). -/
def State.beginSeries (s : State) (leftOut : List SiteIx) (count spacing : Nat) : State :=
  let t := s.seriesPointAt s.clock leftOut
  { t with marks := { t.marks with
      series := if 1 < count then some ⟨1, count, spacing⟩ else none
      multTooFast := false } }

/-- A frame mark served under the mode in force (R126 to R129); the sites that get a lifecycle mark are left out of its
series point 0 (R132). -/
def State.serveMark (s : State) (leftOut : List SiteIx) : State :=
  match s.marks.setting.mode with
  | .pass => s.seriesPointAt s.clock leftOut
  | .thin =>
    let t := if s.marks.thinCount = 0 then s.seriesPointAt s.clock leftOut else s
    { t with marks := { t.marks with thinCount := (s.marks.thinCount + 1) % s.marks.setting.divider } }
  | .multiply =>
    match s.marks.interval with
    | none => s.seriesPointAt s.clock leftOut
    | some interval =>
      if interval / s.marks.setting.divider < 256 then s.fallBack leftOut
      else s.beginSeries leftOut s.marks.setting.divider (interval / s.marks.setting.divider)

/-- The Mark Unit takes a frame mark: pending setting, series cancelled, interval measured, the mark served, the lifecycle
marks, and the FRAME_MARK pulse of 8 ticks (R124, R130, R132, R139). -/
def State.frameMark (s : State) (moved : List (SiteIx × Nat)) : State :=
  let m := ({ s.marks.takeSetting with series := none } : MarkUnit).measure s.clock
  let served := ({ s with marks := { m with monPulse := some (s.clock + 8) } } : State).serveMark (moved.map Prod.fst)
  moved.foldl (fun t p => t.scheduleMark p.1 s.clock p.2) served

/-- The mark point: swaps, moves, the frame-mark count and the Mark Unit (R48). -/
def State.markPoint (s : State) : State :=
  let t := (allSites.foldl State.promote s.performSwaps).readFlow
  ({ t with replicator := { t.replicator with frameMarks := sat32 t.replicator.frameMarks 1 } } : State).frameMark s.moved

/-- MARK (R48): a MARK frame is handed to the Replicator, which performs the mark point; with the trunk link down too, since
a frame received before the loss may still be handed on (R124), but not in SELFTEST (R191). DEDUCED: no other frame's command
acts with the link down (log entry 34). -/
def execMark (s : State) : Host.Outcome State Fault Refusal :=
  live s fun s => if s.hub = .selftest then s else s.markPoint

/-! ### Later points, line pulses and MON -/

/-- The time of the next series point: the frame mark instant plus j·S (R128). -/
def State.seriesDue (s : State) : Option Nat :=
  match s.marks.series, s.marks.lastFrameMark with
  | some x, some t => some (t + x.next * x.spacing)
  | _, _ => none

/-- The series after its next point has been served; none after point N−1 (R128). -/
def Series.advance (x : Series) : Option Series := if x.next + 1 < x.count then some { x with next := x.next + 1 } else none

/-- SERIES_POINT (R128): the time of the next series point is reached and the point is served. -/
def execSeriesPoint (s : State) : Host.Outcome State Fault Refusal :=
  live s fun s => s.seriesDue.elim s fun t =>
    let served := (s.reach t).seriesPointAt t []
    { served with marks := { served.marks with series := s.marks.series.bind Series.advance } }

/-- A pulse begins: the line is high until the latest end of the overlapping marks (R131). -/
def LineState.raise (l : LineState) (ends : Nat) : LineState :=
  match l with
  | .low => .high ends
  | .high e => .high (max e ends)

/-- LINE_MARK_DUE (R131): the due time of the site's oldest scheduled mark is reached; it leaves the list and its pulse
begins. -/
def execLineMarkDue (i : SiteIx) (s : State) : Host.Outcome State Fault Refusal :=
  live s fun s =>
    match (s.site i).marks.scheduled with
    | [] => s
    | m :: rest => (s.reach m.due).modMarks i fun x =>
        { x with scheduled := rest, line := x.line.raise (m.due + m.width) }

/-- When the site's line goes low: at the latest end of its overlapping marks, no mark due before it being left (R131).
DEDUCED (log entry 26). -/
def SiteMarks.pulseEnd (m : SiteMarks) : Option Nat :=
  match m.line with
  | .low => none
  | .high e => if m.scheduled.any (fun x => decide (x.due < e)) then none else some e

/-- LINE_PULSE_END (R131): the site's mark line goes low. -/
def execLinePulseEnd (i : SiteIx) (s : State) : Host.Outcome State Fault Refusal :=
  live s fun s => (s.site i).marks.pulseEnd.elim s fun t =>
    (s.reach t).modMarks i fun x => { x with line := .low }

/-- MON_PULSE_END (R139): the 8-tick FRAME_MARK pulse ends. -/
def execMonPulseEnd (s : State) : Host.Outcome State Fault Refusal :=
  live s fun s => s.marks.monPulse.elim s fun t =>
    let u := s.reach t
    { u with marks := { u.marks with monPulse := none } }

/-- The level of the MON line (R139). -/
def State.monLevel (s : State) : Level :=
  let level (b : Bool) : Level := if b then .high else .low
  match s.marks.monSelect with
  | .none => .low
  | .frameMark => level s.marks.monPulse.isSome
  | .site i => level (decide ((s.site i).marks.line ≠ .low))
  | .held => level (decide (s.flow = .held))
  | .holdover => level (decide (s.hub = .holdover))

end Sys2Proof.Machine
end

