-- ==== Sys2Proof/Machine/Resets.lean ====
section
/-! DEFINITION. Power-on, the RESET pin, and the end of the self-test (R23, R190, R191). -/
namespace Sys2Proof.Machine

/-- The profiles after a reset that keeps the contents of the banks (R23). DEDUCED for a held RESET pin (log entry 8). -/
def keepContents (ps : Vector Profile 4) : Vector Profile 4 :=
  let keep (p : Profile) : Profile := Profile.reset p.bankA.tables p.bankB.tables
  #v[keep ps[0], keep ps[1], keep ps[2], keep ps[3]]

/-- Every block at its reset values (R190); the waiting commands, the clock, the free-value counter and the pin level are
no block's state and stay. -/
def State.blocksReset (s : State) : State :=
  { State.reset with pending := s.pending, clock := s.clock, freeIndex := s.freeIndex, resetPin := s.resetPin }

/-- A self-test begun at this moment: 40 ms when it runs, 2 ms when it is skipped (R191). -/
def State.newSelfTest (s : State) (skipped : Bool) : SelfTest :=
  ⟨skipped, s.clock + (if skipped then Config.skippedTestTicks else Config.selfTestTicks)⟩

/-- The self-test begins (R190, R191). -/
def State.startSelfTest (s : State) (skipped : Bool) : State := { s with selfTest := some (s.newSelfTest skipped) }

/-- POWER_ON_RESET (R190): every block takes its reset values, the trunk link is DOWN and the self-test begins, unless the
RESET pin still holds the hub in reset. -/
def execPowerOnReset (s : State) : Host.Outcome State Fault Refusal :=
  .next (if s.resetPin = .low then { s.blocksReset with selfTest := none } else s.blocksReset.startSelfTest false)

/-- RESET_PIN (R190): the pin is held low; every block and the trunk link are reset, and the hub stays in reset. The banks
keep their contents until the self-test that follows the release zeroes them (R23). -/
def execResetPin (s : State) : Host.Outcome State Fault Refusal :=
  .next { s.blocksReset with resetPin := .low, selfTest := none, profiles := keepContents s.profiles }

/-- RESET_PIN_RELEASE (R190): the hub leaves reset and the self-test begins. -/
def execResetPinRelease (s : State) : Host.Outcome State Fault Refusal :=
  .next (if s.resetPin = .low then ({ s with resetPin := .high } : State).startSelfTest false else s)

/-- The outcome of one memory group (R191). -/
def groupOutcome (passed : Bool) : TestOutcome := if passed then .pass else .fail

/-- The memory groups as the self-test leaves them: every bank zeroed; launch queues, in-flight lists, regions and the
Report Queue stand at their reset contents since the reset itself (R191). -/
def State.zeroGroups (s : State) : State :=
  { s with profiles := Vector.replicate 4 (Profile.reset Tables.zeroed Tables.zeroed) }

/-- The records and the outcome that a self-test ends with: one DIAG record for each group in order and PASS when all four
passed, or one record with group ALL and SKIPPED (R191). -/
def State.testResults (s : State) (skipped : Bool) (r : GroupResults) : State :=
  if skipped then { s.enqueue (.diag .all .skipped) with outcome := .skipped }
  else
    { (((s.zeroGroups.enqueue (.diag .profile (groupOutcome r.profile))).enqueue
        (.diag .queues (groupOutcome r.queues))).enqueue
          (.diag .regions (groupOutcome r.regions))).enqueue (.diag .report (groupOutcome r.report)) with
      outcome := groupOutcome (r.profile && r.queues && r.regions && r.report) }

/-- READY after a self-test: the hub's summary-pending flag is set, and the beat counter starts if BL is not 0 (R191). -/
def State.becomeReady (s : State) : State :=
  { s.flagHub with
    hub := .ready
    selfTest := none
    beat := if s.beat.limit = 0 then s.beat else { s.beat with counter := some s.clock } }

/-- SELFTEST_END (R191): the self-test in progress ends with the given findings. -/
def execSelftestEnd (r : GroupResults) (s : State) : Host.Outcome State Fault Refusal :=
  live s fun s =>
    match s.selfTest with
    | some test => ((s.reach test.endsAt).testResults test.skipped r).becomeReady
    | none => s

end Sys2Proof.Machine
end

