-- ==== Sys2Proof/Machine/Results.lean ====
section
/-! DEFINITION. RESULT frames: matching, retirement of in-flight records, the fail list, the fail-record path and the fail
cell events (R84 to R102, R119, R160, R161). -/
namespace Sys2Proof.Machine

/-! ### Site verdict and fail cell events -/

/-- The verdict of a site turns UNREPAIRABLE: the flag and the summary-pending flag are set, and the cause is raised when
`retire_on_unrepairable` is set (R78, R119). -/
def State.verdict (s : State) (i : SiteIx) : State :=
  if (s.site i).run.unrepairable then s
  else
    let t := (s.modRun i fun r => { r with unrepairable := true }).flagSite i
    if (s.site i).config.retireOnUnrepairable then t.raiseCause i .unrepairable else t

/-- The Repair Screen of a site takes one fail cell event; the region that turns UNREPAIRABLE tells the verdict (R108,
R119). -/
def State.cellEvent (s : State) (i : SiteIx) (g : RegionIx) (row col : Nat) : State :=
  let t := s.modRegion i g fun x => x.takeEvent row col
  if (s.site i).regions[g].state ≠ .unrepairable ∧ (t.site i).regions[g].state = .unrepairable then t.verdict i else t

/-! ### The fail-record path -/

/-- The fail-record mode lets a candidate become a record: ALL, or FIRST below its limit (R160). -/
def Site.wantsRecord (x : Site) : Bool :=
  match x.config.failMode with
  | .off => false
  | .first => decide (x.reports.admitted < x.config.failLimit)
  | .all => true

/-- A FAIL record is admitted with the gap flag held for it (R160, R161). -/
def State.admitFail (s : State) (i : SiteIx) (r : FailRecord) : State :=
  (s.modReports i fun x => { x with admitted := sat32 x.admitted 1, gapPending := false }).enqueue
    (.fail { r with gap := (s.site i).reports.gapPending })

/-- A FAIL record is dropped: counted, the next one marked, and FAIL_GAP set at the first drop (R160, R161). -/
def State.dropFail (s : State) (i : SiteIx) : State :=
  let t := s.modReports i fun x => { x with dropped := sat32 x.dropped 1, gapPending := true }
  if (s.site i).run.failGap then t else (t.modRun i fun r => { r with failGap := true }).flagSite i

/-- A FAIL candidate is offered to the site's fail-record path (R101, R160). -/
def State.offerFail (s : State) (i : SiteIx) (r : FailRecord) : State :=
  if (s.site i).wantsRecord then
    if s.report.queue.length < 192 then s.admitFail i r else s.dropFail i
  else s

/-! ### The fail list -/

/-- The effective mask, (M mod 2^W) AND NOT (CK mod 2^W) (R97). -/
def effectiveMask (t : Tables) (mask : Half) : Nat := (mask &&& ~~~t.ck).toNat % 2 ^ t.geometry.w

/-- A failing vector is counted: once, and once for each failing pin (R98). -/
def State.countFails (s : State) (i : SiteIx) (bits : Nat) : State :=
  s.modMapper i fun m =>
    { m with failingVectors := sat32 m.failingVectors 1, failingBits := sat32 m.failingBits bits }

/-- The pins of a mask in ascending order (R100). -/
def pinsOf (w mask : Nat) : List Nat := (List.range w).filter fun k => mask.testBit k

/-- A failing vector's fail cell events, one for each pin of the mask in ascending order (R100). -/
def State.cellEvents (s : State) (i : SiteIx) (g : Geometry) (prow pcol mask : Nat) : State :=
  (pinsOf g.w mask).foldl (fun u k => u.cellEvent i (regionOf g prow) (regionRow g prow) (cellCol g pcol k)) s

/-- A kept entry is mapped: with pins left after the compare mask it is counted, offered as a candidate and handed to the
Repair Screen; with none it produces nothing (R97 to R101). -/
def State.mapEntry (s : State) (i : SiteIx) (t : Tables) (d : Descriptor) (v : Nat) (mask : Half) : State :=
  let m := effectiveMask t mask
  if m = 0 then s
  else
    (((s.countFails i (popcount t.geometry.w m)).offerFail i
        ⟨i, d.tag, v, physRow t d v, physCol t d v, m, false⟩)).cellEvents i t.geometry (physRow t d v) (physCol t d v) m

/-- The vector index of a fail entry: 0..63 in one byte (R84), whose unused high bits are ignored (R194; log entry 36). -/
def vectorIndex (e : FailEntry) : Nat := e.v.toNat % 64

/-- A fail entry is malformed (R95); `last` is the vector index of the last kept entry. -/
def malformedEntry (t : Tables) (d : Descriptor) (last : Option Nat) (e : FailEntry) : Bool :=
  decide (d.op ≠ .readCompare ∨ d.n ≤ vectorIndex e ∨ e.mask.toNat % 2 ^ t.geometry.w = 0)
    || last.any fun l => decide (vectorIndex e ≤ l)

/-- One fail entry: a malformed entry is counted, any other is kept and mapped (R95). -/
def State.takeEntry (i : SiteIx) (t : Tables) (d : Descriptor) (acc : State × Option Nat) (e : FailEntry) :
    State × Option Nat :=
  if malformedEntry t d acc.2 e then
    (acc.1.modMapper i fun m => { m with malformed := sat32 m.malformed 1 }, acc.2)
  else (acc.1.mapEntry i t d (vectorIndex e) e.mask, some (vectorIndex e))

/-- The fail list, entry by entry in frame order (R95). -/
def State.takeFails (s : State) (i : SiteIx) (t : Tables) (d : Descriptor) (es : List FailEntry) : State :=
  (es.foldl (State.takeEntry i t d) (s, none)).1

/-! ### Matching and retirement -/

/-- The number of records older than the match: the first record, oldest first, whose tag is the result's (R87). -/
def matchIndex (records : List InFlight) (tag : Half) : Option Nat := records.findIdx? fun r => r.desc.tag = tag

/-- The expander is sending a record of the list's tail, and the tail leaves: the newest record is the one being sent, as a
launch appends it and starts its frame (R37, R52). -/
def State.abortAnswered (s : State) (i : SiteIx) (k : Nat) : State :=
  if (s.site i).head.inFlight.length ≤ k + 1 then s.abortBlock i else s

/-- Retirement: the `k` older records as LOST, the match as ANSWERED; each leaves the list and its bank loses a reference
(R88, R89, R92). -/
def State.retireRecords (s : State) (i : SiteIx) (k : Nat) : State :=
  ((((s.abortAnswered i k).dropRefs (((s.site i).head.inFlight.take (k + 1)).map InFlight.bound)).modHead i fun h =>
      { h with inFlight := h.inFlight.drop (k + 1) })).modMapper i fun m =>
    { m with lost := wrap48 m.lost k, answered := wrap48 m.answered 1 }

/-- A matched result: retirement, MAP_INCOMPLETE when records were LOST or the status is ABORTED, the fail list of a DONE
result, and the end of a drain (R86, R88 to R90). -/
def State.takeMatch (s : State) (i : SiteIx) (k : Nat) (record : InFlight) (done : Bool) (es : List FailEntry) : State :=
  let retired := s.retireRecords i k
  let flagged := if 0 < k ∨ done = false then retired.giveMapIncomplete i else retired
  (if done then flagged.takeFails i (s.bank record.bound).tables record.desc es else flagged).endDrain i

/-- A RESULT frame that passes the checks of R85: matched, or STRAY (R86, R87, R91). -/
def State.takeResult (s : State) (i : SiteIx) (tag : Half) (done : Bool) (es : List FailEntry) : State :=
  match matchIndex (s.site i).head.inFlight tag with
  | some k =>
    match (s.site i).head.inFlight[k]? with
    | some record => s.takeMatch i k record done es
    | none => s
  | none => s.modMapper i fun m => { m with stray := sat32 m.stray 1 }

/-- Whether a status code names DONE (`some true`) or ABORTED (`some false`) (R84). -/
def resultDone (status : Byte) : Option Bool := if status = 1 then some true else if status = 2 then some false else none

/-- A RESULT frame received in FINE: discarded into the CRC count when its check fails, its status names nothing or it
lists more than 64 entries (R85), else taken whole (R86). -/
def State.resultFrame (s : State) (i : SiteIx) (f : Option ResultFrame) : State :=
  match f with
  | some x =>
    match resultDone x.status with
    | some done =>
      if x.entries.length ≤ 64 then s.takeResult i x.tag done x.entries
      else s.modMapper i fun m => { m with crc := sat32 m.crc 1 }
    | none => s.modMapper i fun m => { m with crc := sat32 m.crc 1 }
  | none => s.modMapper i fun m => { m with crc := sat32 m.crc 1 }

/-- RESULT (R86, R146): a RESULT frame arrives from a head. -/
def execResult (i : SiteIx) (f : Option ResultFrame) (s : State) : Host.Outcome State Fault Refusal :=
  live s fun s => s.fromHead i fun s => s.resultFrame i f

end Sys2Proof.Machine
end

