-- ==== Sys2Proof/Machine/Trunk.lean ====
section
/-! DEFINITION. The trunk link, discarded frames and the beat detector (R184 to R188, R191), and the arrival of CTRL frames
(R173). -/
namespace Sys2Proof.Machine

/-- TRUNK_TRAINING_START (R184): 10 µs of the mainframe's alignment sequence take the link from DOWN to TRAINING, where the
count of error-free sequences begins at 0. DESIGN CHOICE: those that brought TRAINING are not counted (log entry 13). -/
def execTrunkTrainingStart (s : State) : Host.Outcome State Fault Refusal :=
  live s fun s =>
    if s.trunk.link = .down then { s with trunk := { s.trunk with link := .training, sequences := 0 } } else s

/-- The count of error-free alignment sequences in a row after what is received: each adds one, an error sets the count back
to 0 (R184). -/
def alignedRun (count : Nat) (received : List AlignmentEvent) : Nat :=
  received.foldl (fun n a => match a with
    | .errorFree => n + 1
    | .error => 0) count

/-- The hub sends its own end-of-training sequence, the link becomes UP, and a flow frame of the current flow state is pending
(R59, R184). -/
def State.trunkUp (s : State) : State :=
  { s with trunk := { s.trunk with
      link := .up, sequences := 0, sent := some .endOfTraining, pendingFlow := some s.flow.frame } }

/-- TRUNK_LINK_UP (R184): in TRAINING, what is received of the mainframe's alignment is counted, and its end-of-training
sequence follows; a run of at least 16 error-free sequences makes the link UP, a shorter one stands. DESIGN CHOICE: what is
received comes with the command (log entry 13). -/
def execTrunkLinkUp (received : List AlignmentEvent) (s : State) : Host.Outcome State Fault Refusal :=
  live s fun s =>
    if s.trunk.link = .training then
      let t : State := { s with trunk := { s.trunk with sequences := alignedRun s.trunk.sequences received } }
      if 16 ≤ t.trunk.sequences then t.trunkUp else t
    else s

/-- An expiry of the beat detector: the beat-seen flag clears, the counter stops, and READY becomes HOLDOVER with the
hub's summary-pending flag set (R188). -/
def State.beatExpire (s : State) : State :=
  let t : State := { s with beat := { s.beat with counter := none, seen := false } }
  if s.hub = .ready then { t.flagHub with hub := .holdover } else t

/-- The frame that the upstream link is sending is cut off, without its frame check. -/
def TrunkPort.cutSent (t : TrunkPort) : Option UpSent :=
  match t.upstream with
  | .free => t.sent
  | .report records _ => some (.frame (.report records) .cutOff)
  | .flow frame => some (.frame (.flow frame) .cutOff)

/-- A change out of UP: the link-loss count rises, a report frame being sent becomes the interrupted report frame (R168,
R185). DEDUCED: a flow frame being sent is cut off and not sent again (log entry 22). -/
def TrunkPort.lose (t : TrunkPort) (target : LinkState) : TrunkPort :=
  { t with
    link := target
    sequences := 0
    linkLoss := sat32 t.linkLoss 1
    upstream := .free
    sent := t.cutSent
    interrupted := match t.upstream with
      | .report records _ => some records
      | _ => t.interrupted }

/-- A loss of the trunk link; the beat detector expires if it is on (R185, R188). -/
def State.trunkLost (s : State) (target : LinkState) : State :=
  let t : State := { s with trunk := s.trunk.lose target }
  if s.beat.limit = 0 then t else t.beatExpire

/-- TRUNK_SYMBOL_LOCK_LOSS (R185): an UP link is lost to DOWN; a link in TRAINING falls to DOWN, which is no loss. -/
def execTrunkSymbolLockLoss (s : State) : Host.Outcome State Fault Refusal :=
  live s fun s =>
    match s.trunk.link with
    | .up => s.trunkLost .down
    | _ => { s with trunk := { s.trunk with link := .down, sequences := 0 } }

/-- MAINFRAME_RESTART (R185): an alignment sequence on an UP link, which returns to TRAINING as a link loss. -/
def execMainframeRestart (s : State) : Host.Outcome State Fault Refusal :=
  live s fun s => if s.trunk.link = .up then s.trunkLost .training else s

/-- TRUNK_FRAME_CHECK_FAIL (R186): a downstream frame that fails its check is discarded and counted. -/
def execTrunkFrameCheckFail (s : State) : Host.Outcome State Fault Refusal :=
  live s fun s =>
    if s.trunk.link = .up then { s with trunk := { s.trunk with frameCheck := sat32 s.trunk.frameCheck 1 } } else s

/-- TRUNK_UNKNOWN_KIND (R186): a downstream frame of an undefined kind is discarded, and counted outside SELFTEST. -/
def execTrunkUnknownKind (s : State) : Host.Outcome State Fault Refusal :=
  live s fun s =>
    if s.receives then { s with trunk := { s.trunk with unknownKind := sat32 s.trunk.unknownKind 1 } } else s

/-- SELFTEST_FRAME_DISCARD (R191): a downstream frame that passes its check in SELFTEST is discarded uncounted. -/
def execSelftestFrameDiscard (s : State) : Host.Outcome State Fault Refusal := live s id

/-- BEAT (R187): the beat counter restarts from 0 and the beat-seen flag is set, whatever BL is. DEDUCED (log entry 21). -/
def execBeat (s : State) : Host.Outcome State Fault Refusal :=
  live s fun s =>
    if s.receives then { s with beat := { s.beat with counter := some s.clock, seen := true } } else s

/-- When the beat counter reaches its limit of BL × 10 µs; none while the detector is off or its counter is stopped, and in
SELFTEST (R187, R191). -/
def State.beatDue (s : State) : Option Nat :=
  if s.beat.limit = 0 ∨ s.hub = .selftest then none
  else s.beat.counter.map fun t => t + s.beat.limit * Config.tenMicroseconds

/-- BEAT_EXPIRY (R188): the beat counter reaches its limit. -/
def execBeatExpiry (s : State) : Host.Outcome State Fault Refusal :=
  live s fun s => s.beatDue.elim s fun t => (s.reach t).beatExpire

/-- CTRL (R173): the frame's request joins the control intake when fewer than four are outstanding; otherwise it is
discarded, counted, and the overflow-pending flag is set. -/
def execCtrl (r : CtrlRequest) (s : State) : Host.Outcome State Fault Refusal :=
  live s fun s =>
    if s.receives then
      if s.agent.outstanding < 4 then
        { s with agent := { s.agent with intake := s.agent.intake ++ [r], outstanding := s.agent.outstanding + 1 } }
      else { s with agent := { s.agent with overflows := sat32 s.agent.overflows 1, overflowPending := true } }
    else s

end Sys2Proof.Machine
end

