-- ==== Sys2Proof/Machine/Requests.lean ====
section
/-! DEFINITION. The requests that the Management Agent takes: each takes the oldest request of the control intake, when that
is of its kind, makes its effect and answers it with one RESPONSE record (R175 to R183), or resets the hub (R190). -/
namespace Sys2Proof.Machine

/-- What a request answers: the state after its effect, the response code and the data. -/
structure Answer where
  after : State
  code : RespCode
  data : Option (List Item)
deriving DecidableEq, Repr

/-- A request refused with a code: no state changes and the data are absent (R176, R177). -/
def refuse (s : State) (code : RespCode) : Answer := ⟨s, code, none⟩

/-- A request accepted without data. -/
def accept (s : State) : Answer := ⟨s, .ok, none⟩

/-- A request accepted with data items. -/
def acceptWith (s : State) (items : List Item) : Answer := ⟨s, .ok, some items⟩

/-- The RESPONSE record of a request is made and admitted; it carries and clears the overflow-pending flag (R175, R176). -/
def State.respond (s : State) (r : CtrlRequest) (code : RespCode) (data : Option (List Item)) : State :=
  ({ s with agent := { s.agent with overflowPending := false } } : State).enqueue
    (.response ⟨r.id, r.kind, code, data, s.agent.overflowPending⟩)

/-- The oldest request of the intake with the state it leaves behind, when its kind is one of those given (R175). -/
def State.oldestRequest (s : State) (kindOk : Byte → Bool) : Option (CtrlRequest × State) :=
  match s.agent.intake with
  | r :: rest => if kindOk r.kind then some (r, { s with agent := { s.agent with intake := rest } }) else none
  | [] => none

/-- Taking a request of a kind: it leaves the intake, its effect is made and it is answered, together (R175). DESIGN CHOICE: a
row acts on the oldest request alone, and only when that is of its kind (log entry 11). -/
def State.takeRequest (s : State) (kind : Byte) (effect : CtrlRequest → State → Answer) : State :=
  match s.oldestRequest (fun k => decide (k = kind)) with
  | some (r, t) => (effect r t).after.respond r (effect r t).code (effect r t).data
  | none => s

/-! ### Reading and setting the hub -/

/-- The items of GET_HUB STATE (R181). -/
def State.stateItems (s : State) : List Item :=
  [Item.byte s.hub.code, Item.byte s.outcome.code, Item.flag s.beat.seen, Item.byte s.flow.code,
    Item.half s.report.queue.length, Item.flag s.trunk.interrupted.isSome, Item.half s.agent.outstanding,
    Item.word s.agent.overflows]

/-- The items of GET_HUB COUNTS (R181, R186). DEDUCED: the order within the last item (log entry 17). -/
def State.countItems (s : State) : List Item :=
  [Item.word s.replicator.bursts, Item.word s.replicator.idleBursts, Item.word s.sorter.badDescriptors,
    Item.word s.sorter.sequenceGaps, Item.word s.replicator.frameMarks,
    Item.opt (fun t => Item.half t.toNat) s.sorter.lastTag,
    [⟨4, s.trunk.linkLoss⟩, ⟨4, s.trunk.frameCheck⟩, ⟨4, s.trunk.unknownKind⟩]]

/-- The items of GET_HUB SETTINGS (R181). -/
def State.settingItems (s : State) : List Item :=
  [Item.setting s.marks.setting, Item.opt Item.setting s.marks.pendingSetting, Item.opt Item.word s.marks.interval,
    Item.flag s.marks.multTooFast, Item.mon s.marks.monSelect, Item.half s.report.timerSetting, Item.half s.beat.limit]

/-- GET_HUB's effect: none; the items of the part, read at this moment (R181). -/
def getHubAnswer (r : CtrlRequest) (s : State) : Answer :=
  match getHubOperand r with
  | some .state => acceptWith s s.stateItems
  | some .counts => acceptWith s s.countItems
  | some .settings => acceptWith s s.settingItems
  | none => refuse s .badRequest

/-- GET_HUB (R181). -/
def execGetHub (s : State) : Host.Outcome State Fault Refusal := live s fun s => s.takeRequest 2 getHubAnswer

/-- A value held to a range (R178). -/
def clampTo (lo hi v : Nat) : Nat := max lo (min v hi)

/-- A mark setting with its divider clamped to 2..128 (R125, R178). -/
def MarkSetting.clamped (m : MarkSetting) : MarkSetting := { m with divider := clampTo 2 128 m.divider }

/-- A new beat limit: 0 stops the counter, a change from 0 starts it from 0, any other keeps the elapsed count (R187).
DEDUCED: a limit lowered below the elapsed count makes the expiry due, and is no expiry itself (log entry 21). -/
def BeatDetector.setLimit (b : BeatDetector) (bl now : Nat) : BeatDetector :=
  { b with
    limit := bl
    counter :=
      if bl = b.limit then b.counter
      else if bl = 0 then none else if b.limit = 0 then some now else b.counter }

/-- The options of SET_HUB, each applied with its clamp (R125, R139, R169, R178, R179, R187). -/
def State.applyHub (s : State) (o : SetHubOperands) : State :=
  { s with
    report := { s.report with timerSetting := (o.timer.map (clampTo 0 255)).getD s.report.timerSetting }
    beat := o.beatLimit.elim s.beat fun bl => s.beat.setLimit (clampTo 0 15 bl) s.clock
    marks := { s.marks with
      pendingSetting := (o.setting.map MarkSetting.clamped).or s.marks.pendingSetting
      monSelect := o.monSelect.getD s.marks.monSelect } }

/-- The four items of a SET_HUB answer (R179). -/
def State.hubItems (s : State) : List Item :=
  [Item.half s.report.timerSetting, Item.half s.beat.limit,
    Item.setting (s.marks.pendingSetting.getD s.marks.setting), Item.mon s.marks.monSelect]

/-- SET_HUB's effect (R179). -/
def setHubAnswer (r : CtrlRequest) (s : State) : Answer :=
  match setHubOperands r with
  | some o => acceptWith (s.applyHub o) (s.applyHub o).hubItems
  | none => refuse s .badRequest

/-- SET_HUB (R179). -/
def execSetHub (s : State) : Host.Outcome State Fault Refusal := live s fun s => s.takeRequest 3 setHubAnswer

/-! ### Profiles -/

/-- Map entries written from an index on, in list order (R10). -/
def writeEntries : Nat → List (Nat × Nat × Option Nat) → Vector MapEntry 26 → Vector MapEntry 26
  | _, [], m => m
  | at_, e :: rest, m => writeEntries (at_ + 1) rest (m.setIfInBounds at_ ⟨e.1, decide (e.2.1 = 1), e.2.2⟩)

/-- A list of pin numbers as a pin order (R11). -/
def pinOrderOf (order : List Nat) : Vector Nat 16 := Vector.ofFn fun d => order.getD d.val 0

/-- The fields of a part are in range (R9, R10, R11). -/
def ProfileWrite.inRange : ProfileWrite → Bool
  | .geometry g => g.inRange
  | .map first es =>
    decide (1 ≤ es.length ∧ es.length ≤ 8 ∧ first + es.length ≤ 26)
      && es.all fun e => decide (e.1 ≤ 25 ∧ e.2.1 ≤ 1) && e.2.2.all fun p => decide (p ≤ 25)
  | .topology order _ _ _ _ => order.all fun p => decide (p ≤ 15)

/-- The part written into a bank's contents; masks are truncated to their stored widths (R9, R10, R11). -/
def ProfileWrite.apply (t : Tables) : ProfileWrite → Tables
  | .geometry g => { t with geometry := g }
  | .map first es => { t with map := writeEntries first es t.map }
  | .topology order rm cm pi ck =>
    { t with
      pinOrder := pinOrderOf order, rm := BitVec.ofNat 16 rm, cm := BitVec.ofNat 10 cm, pi := BitVec.ofNat 16 pi,
      ck := BitVec.ofNat 16 ck }

/-- An accepted write: the part replaces that of the standby bank, whose VALID flag clears (R12). -/
def Profile.write (p : Profile) (w : ProfileWrite) : Profile :=
  p.modBank p.standby fun b => { b with valid := false, tables := w.apply b.tables }

/-- WRITE_PROFILE's effect: the conditions of R8 in order. -/
def writeProfileAnswer (r : CtrlRequest) (s : State) : Answer :=
  match writeProfileOperands r with
  | none => refuse s .badRequest
  | some (index, w) =>
    match profileOf index with
    | none => refuse s .badRequest
    | some k =>
      if w.inRange = false then refuse s .badRequest
      else if (s.profile k).pendingSwap then refuse s .swapPending
      else if (s.profile k).standbyBank.refCount ≠ 0 then refuse s .bankBusy
      else accept (s.modProfile k fun p => p.write w)

/-- WRITE_PROFILE (R8). -/
def execWriteProfile (s : State) : Host.Outcome State Fault Refusal := live s fun s => s.takeRequest 4 writeProfileAnswer

/-- The items of READ_PROFILE GEOMETRY (R13, R196). -/
def Profile.geometryItems (p : Profile) (bank : BankName) : List Item :=
  let g := (p.bank bank).tables.geometry
  [Item.half g.rb, Item.half g.cb, Item.half g.w, Item.half g.sr, Item.half g.sc, Item.flag (p.bank bank).valid,
    Item.half (p.bank bank).refCount, Item.bytes [p.active.code, flagCode p.pendingSwap]]

/-- The items of READ_PROFILE MAP (R13). -/
def Tables.mapItems (t : Tables) (first count : Nat) : List Item :=
  (List.range count).map fun k => Item.mapEntry (t.entry (first + k))

/-- The items of READ_PROFILE TOPOLOGY (R13). -/
def Tables.topologyItems (t : Tables) : List Item :=
  [Item.bytes t.pinOrder.toList, Item.half t.rm.toNat, Item.half t.cm.toNat, Item.half t.pi.toNat, Item.half t.ck.toNat]

/-- READ_PROFILE's effect: none; the items of the part (R13). -/
def readProfileAnswer (r : CtrlRequest) (s : State) : Answer :=
  match readProfileOperands r with
  | none => refuse s .badRequest
  | some (index, bank, part) =>
    match profileOf index with
    | none => refuse s .badRequest
    | some k =>
      match part with
      | .geometry => acceptWith s ((s.profile k).geometryItems bank)
      | .map first count =>
        if 1 ≤ count ∧ count ≤ 8 ∧ first + count ≤ 26 then
          acceptWith s (((s.profile k).bank bank).tables.mapItems first count)
        else refuse s .badRequest
      | .topology => acceptWith s ((s.profile k).bank bank).tables.topologyItems

/-- READ_PROFILE (R13). -/
def execReadProfile (s : State) : Host.Outcome State Fault Refusal := live s fun s => s.takeRequest 5 readProfileAnswer

/-- The failures of validation, by code (R16, R196). -/
inductive MapFailure where
  | geometryRange | mapSource | mapPartner | pinOrder
deriving DecidableEq, Repr

/-- The code of a validation failure (R196). -/
def MapFailure.code : MapFailure → Nat
  | .geometryRange => 1 | .mapSource => 2 | .mapPartner => 3 | .pinOrder => 4

/-- The lowest index of a list of values, below `n`, that is `n` or above or repeats a lower one (R16, checks 2 and 4). -/
def firstNotPermuted (n : Nat) (f : Nat → Nat) : Option Nat :=
  (List.range n).find? fun i => decide (n ≤ f i) || (List.range i).any fun j => f j == f i

/-- The partner of entry `i` keeps check 3: below N, not its own source, and reached by an entry without a partner
(R16). -/
def Tables.partnerOk (t : Tables) (i : Nat) : Bool :=
  (t.entry i).partner.all fun p =>
    decide (p < t.geometry.n ∧ p ≠ (t.entry i).source)
      && (List.range t.geometry.n).all fun j => decide ((t.entry j).source = p → (t.entry j).partner = none)

/-- Validation: the four checks in order; the first that fails, and the lowest index at which it does (R16). -/
def Tables.validate (t : Tables) : Option (MapFailure × Nat) :=
  if t.geometry.inRange = false then some (.geometryRange, 0)
  else match firstNotPermuted t.geometry.n (fun i => (t.entry i).source) with
    | some i => some (.mapSource, i)
    | none => match (List.range t.geometry.n).find? (fun i => !t.partnerOk i) with
      | some i => some (.mapPartner, i)
      | none => (firstNotPermuted t.geometry.w t.pinOf).map fun d => (.pinOrder, d)

/-- The geometry lock of a profile: some site that uses it is in test (R19). -/
def State.geometryLocked (s : State) (k : ProfileIx) : Bool :=
  allSites.any fun i => decide ((s.site i).config.mode = .profile k) && (s.site i).run.state.inTest

/-- The standby and active geometries differ (R15, R20). -/
def Profile.geometryDiffers (p : Profile) : Bool :=
  decide (p.standbyBank.tables.geometry ≠ p.activeBank.tables.geometry)

/-- An accepted swap: the standby bank is VALID and the swap is pending (R15). -/
def Profile.requestSwap (p : Profile) : Profile :=
  { p.modBank p.standby fun b => { b with valid := true } with pendingSwap := true }

/-- The failure that refuses a swap: that of a standby bank whose VALID flag is clear (R15, step 3). -/
def Profile.swapFailure (p : Profile) : Option (MapFailure × Nat) :=
  if p.standbyBank.valid then none else p.standbyBank.tables.validate

/-- SWAP_PROFILE's effect: the conditions of R15 in order. -/
def swapProfileAnswer (r : CtrlRequest) (s : State) : Answer :=
  match (indexOperand r).bind profileOf with
  | none => refuse s .badRequest
  | some k =>
    if (s.profile k).pendingSwap then accept s
    else match (s.profile k).swapFailure with
      | some (f, i) => ⟨s, .mapInvalid, some [Item.bytes [f.code, i]]⟩
      | none =>
        if (s.profile k).geometryDiffers ∧ s.geometryLocked k then refuse s .geometryLocked
        else accept (s.modProfile k Profile.requestSwap)

/-- SWAP_PROFILE (R15). -/
def execSwapProfile (s : State) : Host.Outcome State Fault Refusal := live s fun s => s.takeRequest 6 swapProfileAnswer

/-! ### Sites and pairs -/

/-- A site comes from DISABLED or RELEASED into TRAINING: mode, site clear, link trained from DOWN (R64, R66). -/
def State.bringUp (s : State) (i : SiteIx) (m : SiteMode) : State :=
  ((((s.linkDown i).modConfig i fun c => { c with mode := m }).siteClear i).linkUp i).enterTraining i

/-- A site goes to DISABLED: mode, training limit stopped, link down (R64). -/
def State.disable (s : State) (i : SiteIx) : State :=
  (((s.linkDown i).modConfig i fun c => { c with mode := .disabled }).modRun i fun r =>
    { r with trainingLimit := none }).enter i .disabled

/-- The effect of a mode that SET_SITE carries, by the site's state (R64). -/
def State.setMode (s : State) (i : SiteIx) (m : SiteMode) : State :=
  match (s.site i).run.state, m with
  | .disabled, .disabled => s
  | .disabled, .profile _ => s.bringUp i m
  | .released, .disabled => s.disable i
  | .released, .profile _ => s.bringUp i m
  | .training, .disabled | .idle, .disabled | .retired, .disabled => s.disable i
  | .training, .profile _ | .idle, .profile _ | .retired, .profile _ => s.modConfig i fun c => { c with mode := m }
  | .armed, _ | .primed, _ | .active, _ | .draining, _ => s

/-- Setting `retire_on_unrepairable` from clear on an ACTIVE or DRAINING site whose verdict is UNREPAIRABLE raises the
cause (R78). DEDUCED: setting it again when it is set raises nothing (log entry 19). DESIGN CHOICE: on a DRAINING site whose
primary cause is UNREPAIRABLE already the record stays as it is, with R78's words on the option cleared and set again, where
R72 would have the cause join the additional set (log entry 35). -/
def State.setRetireOption (s : State) (i : SiteIx) (b : Bool) : State :=
  let t := s.modConfig i fun c => { c with retireOnUnrepairable := b }
  if b ∧ (s.site i).config.retireOnUnrepairable = false ∧ (s.site i).run.unrepairable
      ∧ ((s.site i).run.state = .active
        ∨ ((s.site i).run.state = .draining ∧ (s.site i).run.primary ≠ some .unrepairable)) then
    t.raiseCause i .unrepairable
  else t

/-- The options that change the configuration alone, with their clamps (R53, R135, R145, R162, R178, R180). -/
def SiteConfig.apply (c : SiteConfig) (o : SiteOptions) : SiteConfig :=
  { c with
    failMode := (o.fail.bind FailOption.mode).getD c.failMode
    failLimit := ((o.fail.bind FailOption.limit).map (clampTo 1 65535)).getD c.failLimit
    responseLimit := (o.response.map (clampTo 1 255)).getD c.responseLimit
    lockEdges := o.edges.getD c.lockEdges
    gain := (o.gain.map (clampTo 0 4)).getD c.gain
    errorMode := o.errorMode.getD c.errorMode
    initialOffset := (o.offset.map (clampTo 0 4095)).getD c.initialOffset }

/-- The offset option: O takes the applied value and A becomes 0 (R135). -/
def SiteMarks.setOffset (m : SiteMarks) (o : Option Nat) : SiteMarks :=
  o.elim m fun v => { m with offset := clampTo 0 4095 v, residual := 0 }

/-- The options of SET_SITE, in the order of their table (R180). -/
def State.applyOptions (s : State) (i : SiteIx) (o : SiteOptions) : State :=
  (((o.retire.elim s fun b => s.setRetireOption i b).modConfig i fun c => c.apply o)).modMarks i fun m =>
    m.setOffset o.offset

/-- The eight items of a SET_SITE answer (R180). -/
def Site.configItems (x : Site) : List Item :=
  [Item.byte x.run.state.code, Item.bytes [x.config.mode.codes.1, x.config.mode.codes.2],
    Item.flag x.config.retireOnUnrepairable, Item.failMode x.config, Item.half x.config.responseLimit,
    Item.byte x.config.lockEdges.code, Item.gain x.config, Item.half x.config.initialOffset]

/-- A mode change that a site in test refuses (R63). -/
def Site.refusesMode (x : Site) (m : Option SiteMode) : Bool :=
  x.run.state.inTest && m.any fun m => decide (m ≠ x.config.mode)

/-- SET_SITE's effect: the conditions of R63, then the mode, then the options (R64, R180). -/
def setSiteAnswer (r : CtrlRequest) (s : State) : Answer :=
  match setSiteOperands r with
  | none => refuse s .badRequest
  | some (index, mode, o) =>
    match siteOf index with
    | none => refuse s .badRequest
    | some i =>
      if (s.site i).refusesMode mode then refuse s .badState
      else
        let t := (mode.elim s fun m => s.setMode i m).applyOptions i o
        acceptWith t (t.site i).configItems

/-- SET_SITE (R63). -/
def execSetSite (s : State) : Host.Outcome State Fault Refusal := live s fun s => s.takeRequest 7 setSiteAnswer

/-- The settings of a pair after a SET_PAIR (R147, R178). -/
def PairSettings.apply (p : PairSettings) (o : PairOptions) : PairSettings :=
  { tripLevel := (o.tripLevel.map (clampTo 0 4095)).getD p.tripLevel
    deglitch := (o.deglitch.map (clampTo 1 16)).getD p.deglitch
    blanking := (o.blanking.map (clampTo 0 255)).getD p.blanking
    rate := o.rate.getD p.rate }

/-- Both sites of a pair are DISABLED or RELEASED (R148). -/
def State.pairAtRest (s : State) (k : PairIx) : Bool :=
  allSites.all fun i => decide (i.pair = k → (s.site i).run.state = .disabled ∨ (s.site i).run.state = .released)

/-- The four items of a SET_PAIR answer (R148). -/
def PairSettings.items (p : PairSettings) : List Item :=
  [Item.half p.tripLevel, Item.half p.deglitch, Item.half p.blanking, Item.byte p.rate.code]

/-- The state with the settings of a pair changed. -/
def State.modPair (s : State) (k : PairIx) (f : PairSettings → PairSettings) : State :=
  { s with pairs := s.pairs.set k (f s.pairs[k]) }

/-- SET_PAIR's effect: the conditions of R148 in order. -/
def setPairAnswer (r : CtrlRequest) (s : State) : Answer :=
  match setPairOperands r with
  | none => refuse s .badRequest
  | some (index, o) =>
    match pairIndexOf index with
    | none => refuse s .badRequest
    | some k =>
      if o.rate.any (fun c => decide (c ≠ s.pairs[k].rate)) ∧ s.pairAtRest k = false then refuse s .badState
      else acceptWith (s.modPair k fun p => p.apply o) (s.pairs[k].apply o).items

/-- SET_PAIR (R148). -/
def execSetPair (s : State) : Host.Outcome State Fault Refusal := live s fun s => s.takeRequest 8 setPairAnswer

/-- A region laid out from a geometry: CLEAN, with its spares (R107). -/
def Region.layOut (g : Geometry) (x : Region) : Region :=
  { Region.reset with srRem := g.sr, scRem := g.sc, summaryPending := x.summaryPending }

/-- The sixteen regions laid out from the join geometry (R107). -/
def layOutAll (g : Geometry) (rs : Vector Region 16) : Vector Region 16 := Vector.ofFn fun k => (rs[k]).layOut g

/-- A site joins: ARMED, the join geometry, the regions, the supply counts, and a POWER_ON frame (R68). -/
def State.join (s : State) (i : SiteIx) (g : Geometry) : State :=
  (((s.modSite i fun x => { x with
    run := { x.run with joinGeometry := some g }
    regions := layOutAll g x.regions
    supply := { x.supply with peak := some 0, overCount := 0, blanking := (s.pairOf i).blanking } }).raiseControl i
      .powerOn)).enter i .armed

/-- JOIN_SITE's effect: the conditions of R68 in order. DESIGN CHOICE: an IDLE site without a profile, which no run reaches, is
refused with NO_PROFILE (log entry 25). -/
def joinSiteAnswer (r : CtrlRequest) (s : State) : Answer :=
  match (indexOperand r).bind siteOf with
  | none => refuse s .badRequest
  | some i =>
    if (s.site i).run.state ≠ .idle then refuse s .badState
    else match (s.site i).config.mode with
      | .disabled => refuse s .noProfile
      | .profile k =>
        if (s.profile k).activeBank.valid = false then refuse s .noProfile
        else if (s.profile k).pendingSwap ∧ (s.profile k).geometryDiffers then refuse s .geometryLocked
        else accept (s.join i (s.profile k).activeBank.tables.geometry)

/-- JOIN_SITE (R68). -/
def execJoinSite (s : State) : Host.Outcome State Fault Refusal := live s fun s => s.takeRequest 9 joinSiteAnswer

/-- RETIRE_SITE's effect: cause REQUESTED against a site in ARMED, PRIMED or ACTIVE; the answer gives the state entered
(R73, R183). -/
def retireSiteAnswer (r : CtrlRequest) (s : State) : Answer :=
  match (indexOperand r).bind siteOf with
  | none => refuse s .badRequest
  | some i =>
    match (s.site i).run.state with
    | .armed | .primed | .active =>
      acceptWith (s.raiseCause i .requested) [Item.byte ((s.raiseCause i .requested).site i).run.state.code]
    | _ => refuse s .badState

/-- RETIRE_SITE (R73). -/
def execRetireSite (s : State) : Host.Outcome State Fault Refusal := live s fun s => s.takeRequest 10 retireSiteAnswer

/-- A RETIRED site is cleared and enters IDLE with FINE lock, TRAINING otherwise (R80). -/
def State.clearRetired (s : State) (i : SiteIx) : State :=
  if (s.site i).head.lock = .fine then (s.siteClear i).enter i .idle else (s.siteClear i).enterTraining i

/-- CLEAR_SITE's effect; the answer gives the state entered (R80, R183). -/
def clearSiteAnswer (r : CtrlRequest) (s : State) : Answer :=
  match (indexOperand r).bind siteOf with
  | none => refuse s .badRequest
  | some i =>
    if (s.site i).run.state = .retired then
      acceptWith (s.clearRetired i) [Item.byte ((s.clearRetired i).site i).run.state.code]
    else refuse s .badState

/-- CLEAR_SITE (R80). -/
def execClearSite (s : State) : Host.Outcome State Fault Refusal := live s fun s => s.takeRequest 11 clearSiteAnswer

/-- A RETIRED site enters RELEASED: with FINE lock a RELEASE frame joins the control list, without it the link is taken
down at once (R81). -/
def State.release (s : State) (i : SiteIx) : State :=
  if (s.site i).head.lock = .fine then (s.enter i .released).raiseControl i .release
  else (s.enter i .released).linkDown i

/-- RELEASE_SITE's effect (R81). -/
def releaseSiteAnswer (r : CtrlRequest) (s : State) : Answer :=
  match (indexOperand r).bind siteOf with
  | none => refuse s .badRequest
  | some i => if (s.site i).run.state = .retired then accept (s.release i) else refuse s .badState

/-- RELEASE_SITE (R81). -/
def execReleaseSite (s : State) : Host.Outcome State Fault Refusal := live s fun s => s.takeRequest 12 releaseSiteAnswer

/-! ### Reading sites and regions -/

/-- The flags byte of a site: MAP_INCOMPLETE, FAIL_GAP, OFFSET_SATURATED, UNREPAIRABLE from bit 0 (R197). -/
def flagBits (mapIncomplete failGap offsetSaturated unrepairable : Bool) : Nat :=
  flagCode mapIncomplete + 2 * flagCode failGap + 4 * flagCode offsetSaturated + 8 * flagCode unrepairable

/-- The items of READ_SITE STATUS (R182, R196). -/
def Site.statusItems (x : Site) : List Item :=
  [Item.byte x.run.state.code, Item.bytes [x.config.mode.codes.1, x.config.mode.codes.2],
    Item.opt (fun c => Item.byte c.code) x.run.primary, Item.byte (causeBits x.run.additional),
    Item.bytes [x.head.lock.code, flagBits x.run.mapIncomplete x.run.failGap x.run.offsetSaturated x.run.unrepairable],
    Item.opt Item.geometry x.run.joinGeometry, Item.half x.head.launchQueue.length, Item.half x.head.inFlight.length]

/-- The items of READ_SITE PATTERN (R182). -/
def Site.patternItems (x : Site) : List Item :=
  [Item.wide x.head.copied, Item.wide x.head.flushed, Item.wide x.head.launched, Item.wide x.mapper.answered,
    Item.wide x.mapper.lost, Item.wide x.mapper.abandoned, Item.half x.head.launchQueue.length,
    Item.half x.head.inFlight.length]

/-- The items of READ_SITE FAILS (R182). -/
def Site.failItems (x : Site) : List Item :=
  [Item.word x.mapper.failingVectors, Item.word x.mapper.failingBits, Item.word x.mapper.malformed,
    Item.word x.mapper.stray, Item.word x.mapper.crc, Item.word x.reports.admitted, Item.word x.reports.dropped,
    Item.flag x.reports.gapPending]

/-- The items of READ_SITE SUPPLY (R182). -/
def Site.supplyItems (x : Site) : List Item :=
  [Item.opt Item.half x.supply.latest, Item.opt Item.half x.supply.peak, Item.half x.supply.blanking,
    Item.half x.supply.overCount, Item.byte x.head.lock.code, Item.word x.head.fineLoss, Item.word x.head.telemetryCheck,
    Item.word x.head.unknownFrames]

/-- The items of READ_SITE CONFIG (R182). -/
def Site.settingItems (x : Site) : List Item :=
  [Item.flag x.config.retireOnUnrepairable, Item.failMode x.config, Item.half x.config.responseLimit,
    Item.byte x.config.lockEdges.code, Item.gain x.config, Item.half x.config.initialOffset, Item.half x.marks.offset,
    Item.signedHalf x.marks.residual]

/-- The items of a part of READ_SITE (R182). -/
def Site.partItems (x : Site) : SitePart → List Item
  | .status => x.statusItems
  | .pattern => x.patternItems
  | .fails => x.failItems
  | .supply => x.supplyItems
  | .config => x.settingItems

/-- READ_SITE's effect: none; the items of the part (R182). -/
def readSiteAnswer (r : CtrlRequest) (s : State) : Answer :=
  match readSiteOperands r with
  | none => refuse s .badRequest
  | some (index, part) =>
    match siteOf index with
    | none => refuse s .badRequest
    | some i => acceptWith s ((s.site i).partItems part)

/-- READ_SITE (R182). -/
def execReadSite (s : State) : Host.Outcome State Fault Refusal := live s fun s => s.takeRequest 13 readSiteAnswer

/-- The eight items of a region (R121). -/
def Region.items (g : Region) : List Item :=
  [Item.byte g.state.code, Item.half g.srRem, Item.half g.scRem, Item.halves g.rows, Item.halves g.cols,
    Item.half g.cells.length, Item.word g.covered, Item.word g.ignored]

/-- READ_REGION's effect: none; the eight items (R121). -/
def readRegionAnswer (r : CtrlRequest) (s : State) : Answer :=
  match readRegionOperands r with
  | none => refuse s .badRequest
  | some (site, region) =>
    match siteOf site, regionIndexOf region with
    | some i, some g => acceptWith s (s.site i).regions[g].items
    | _, _ => refuse s .badRequest

/-- READ_REGION (R121). -/
def execReadRegion (s : State) : Host.Outcome State Fault Refusal := live s fun s => s.takeRequest 14 readRegionAnswer

/-- A cell as one item: row, column and hits, two bytes each (R122, R195). -/
def Cell.item (c : Cell) : Item := Item.halves [c.row, c.col, c.hits]

/-- READ_CELLS's effect: none; up to 8 cells from the start index (R122). DESIGN CHOICE: the start index is 0..255 in an item
of two bytes, and its unused high byte is ignored as R194 says, so that no start is out of range in R178's sense (log entry
33). -/
def readCellsAnswer (r : CtrlRequest) (s : State) : Answer :=
  match readCellsOperands r with
  | none => refuse s .badRequest
  | some (site, region, start) =>
    match siteOf site, regionIndexOf region with
    | some i, some g => acceptWith s ((((s.site i).regions[g].cells.drop (start % 256)).take 8).map Cell.item)
    | _, _ => refuse s .badRequest

/-- READ_CELLS (R122). -/
def execReadCells (s : State) : Host.Outcome State Fault Refusal := live s fun s => s.takeRequest 15 readCellsAnswer

/-! ### RESUME, HUB_RESET and unknown kinds -/

/-- RESUME's effect: HOLDOVER with the beat-seen flag set becomes READY (R189). -/
def resumeAnswer (r : CtrlRequest) (s : State) : Answer :=
  match resumeOperand r with
  | none => refuse s .badRequest
  | some _ =>
    if s.hub = .holdover ∧ s.beat.seen then accept { s.flagHub with hub := .ready } else refuse s .badState

/-- RESUME (R189). -/
def execResume (s : State) : Host.Outcome State Fault Refusal := live s fun s => s.takeRequest 16 resumeAnswer

/-- UNKNOWN_REQUEST_KIND (R177): a request whose kind code names no kind is taken and answered BAD_REQUEST. -/
def execUnknownRequestKind (s : State) : Host.Outcome State Fault Refusal :=
  live s fun s =>
    match s.oldestRequest (fun k => decide (k ∉ requestKinds)) with
    | some (r, t) => t.respond r .badRequest none
    | none => s

/-- The Trunk Port at a HUB_RESET: the link is kept, a report frame being sent is cut off, and an UP link has a flow frame
giving FLOWING pending (R59, R171, R190). A flow frame being sent goes on (log entry 9).
DESIGN CHOICE: with the link not UP no flow frame is pending (log entry 7). -/
def TrunkPort.hubReset (t : TrunkPort) : TrunkPort :=
  { TrunkPort.reset with
    link := t.link
    sequences := t.sequences
    upstream := match t.upstream with
      | .flow frame => .flow frame
      | _ => .free
    sent := match t.upstream with
      | .report records _ => some (.frame (.report records) .cutOff)
      | _ => t.sent
    pendingFlow := if t.link = .up then some FlowState.flowing.frame else none }

/-- The reset of HUB_RESET: every block but the trunk link, the bank contents kept until a self-test that runs zeroes them
(R23, R190, R191). -/
def State.hubReset (s : State) (skip : Bool) : State :=
  ({ s.blocksReset with profiles := keepContents s.profiles, trunk := s.trunk.hubReset } : State).startSelfTest skip

/-- HUB_RESET (R190): resets the hub and is not answered (R174); a malformed one is answered BAD_REQUEST (R195). DEDUCED (log
entry 16). -/
def execHubReset (s : State) : Host.Outcome State Fault Refusal :=
  live s fun s =>
    match s.oldestRequest (fun k => decide (k = 1)) with
    | some (r, t) =>
      match hubResetOperand r with
      | some skip => t.hubReset skip
      | none => t.respond r .badRequest none
    | none => s

end Sys2Proof.Machine
end

