-- ==== Sys2Proof/Machine/Supply.lean ====
section
/-! DEFINITION. TELEMETRY frames: the Supply Supervisor's samples and the alignment loop (R136 to R138, R150 to R155). -/
namespace Sys2Proof.Machine

/-! ### Over-current supervision -/

/-- The latest current of a sample, and in test the peak current (R151). -/
def State.noteCurrent (s : State) (i : SiteIx) (current : Nat) : State :=
  s.modSupply i fun p => { p with
    latest := some current
    peak := if (s.site i).run.state.inTest then some (max (p.peak.getD 0) current) else p.peak }

/-- The consecutive-over count after a compared sample: up by one to at most 16 above the level, else 0 (R154). -/
def overAfter (count current level : Nat) : Nat := if level < current then min (count + 1) 16 else 0

/-- A sample compared with the trip level; at the deglitch count OVERCURRENT is raised (R154). -/
def State.compareSample (s : State) (i : SiteIx) (current : Nat) : State :=
  let count := overAfter (s.site i).supply.overCount current (s.pairOf i).tripLevel
  let t := s.modSupply i fun p => { p with overCount := count }
  if (s.pairOf i).tripLevel < current ∧ (s.pairOf i).deglitch ≤ count then t.raiseCause i .overcurrent else t

/-- The Supply Supervisor takes a sample: outside test only the latest current; in test a blanked sample counts down the
blanking, any other is compared (R151 to R154). -/
def State.takeSample (s : State) (i : SiteIx) (current : Nat) : State :=
  let t := s.noteCurrent i current
  if (s.site i).run.state.inTest then
    if 0 < (s.site i).supply.blanking then t.modSupply i fun p => { p with blanking := p.blanking - 1 }
    else t.compareSample i current
  else t

/-! ### The alignment loop -/

/-- The step input of a loop update (R137). -/
def stepInput (mode : ErrorMode) (e : Int) : Int :=
  match mode with
  | .oneStep => e.sign
  | .actual => e

/-- One loop update of offset and residual, and whether it clamped (R137, R138). -/
def loopStep (gain : Nat) (mode : ErrorMode) (e : Int) (offset : Nat) (residual : Int) : Nat × Int × Bool :=
  let a := residual + stepInput mode e * (gain : Int)
  let moved := (offset : Int) - a.tdiv 4
  if moved < 0 then (0, 0, true)
  else if 4095 < moved then (4095, 0, true)
  else (moved.toNat, a - 4 * a.tdiv 4, false)

/-- A loop update of a site; OFFSET_SATURATED follows the clamp, and its setting flags the site (R137, R138). -/
def State.loopUpdate (s : State) (i : SiteIx) (e : Int) : State :=
  let x := s.site i
  let r := loopStep x.config.gain x.config.errorMode e x.marks.offset x.marks.residual
  let t := (s.modMarks i fun m => { m with offset := r.1, residual := r.2.1 }).modRun i fun q =>
    { q with offsetSaturated := r.2.2 }
  if r.2.2 && !x.run.offsetSaturated then t.flagSite i else t

/-- The Mark Unit takes a phase error; the loop runs when the site's state, as it stood for the Mark Unit, is PRIMED, ACTIVE
or DRAINING and its gain is not 0 (R136). -/
def State.takePhase (s : State) (i : SiteIx) (stood : SiteState) (e : Int) : State :=
  if stood.marked ∧ (s.site i).config.gain ≠ 0 then s.loopUpdate i e else s

/-- A sample's phase error goes to the Mark Unit, its current having gone to the Supply Supervisor (R150). Where the sample
retired the site, whether the Mark Unit took the phase error before that is a free value (log entry 6). -/
def State.sampleTaken (s : State) (i : SiteIx) (phase : Option Int) (before : SiteState) : State :=
  match phase with
  | none => s
  | some e =>
    if (s.site i).run.state = before ∨ before.marked = false then s.takePhase i before e
    else
      ({ s with freeIndex := s.freeIndex + 1 } : State).takePhase i
        (if Config.markUnitFirst s.freeIndex then before else (s.site i).run.state) e

/-- The phase error of a frame: absent, present, or a code that fails the frame's check (R198). -/
def phaseErrorOf (f : TelemetryFrame) : Option (Option Int) :=
  if f.present = 0 then some none else if f.present = 1 then some (some f.phase.toInt) else none

/-- A TELEMETRY frame received in FINE: one that fails its check is counted, any other is a sample (R146, R150). Bits
12..15 of the current field are ignored (R194, R198). -/
def State.telemetryFrame (s : State) (i : SiteIx) (f : Option TelemetryFrame) : State :=
  match f.bind fun x => (phaseErrorOf x).map fun p => (x.current.toNat % 4096, p) with
  | some (current, phase) => (s.takeSample i current).sampleTaken i phase (s.site i).run.state
  | none => s.modHead i fun h => { h with telemetryCheck := sat32 h.telemetryCheck 1 }

/-- TELEMETRY (R150): a TELEMETRY frame arrives from a head. -/
def execTelemetry (i : SiteIx) (f : Option TelemetryFrame) (s : State) : Host.Outcome State Fault Refusal :=
  live s fun s => s.fromHead i fun s => s.telemetryFrame i f

end Sys2Proof.Machine
end

