-- ==== Sys2Proof/Machine/Dispatch.lean ====
section
/-! DEFINITION. Every command to its meaning: one arm for each row of the table of operations and events. -/
namespace Sys2Proof.Machine

/-- The effect of a command on everything but the queue of waiting commands. -/
def exec (i : Instr) (s : State) : Host.Outcome State Fault Refusal :=
  match i with
  | .powerOnReset => Sys2Proof.Machine.execPowerOnReset s
  | .resetPin => Sys2Proof.Machine.execResetPin s
  | .selftestEnd r => Sys2Proof.Machine.execSelftestEnd r s
  | .trunkTrainingStart => Sys2Proof.Machine.execTrunkTrainingStart s
  | .trunkLinkUp n => Sys2Proof.Machine.execTrunkLinkUp n s
  | .trunkSymbolLockLoss => Sys2Proof.Machine.execTrunkSymbolLockLoss s
  | .mainframeRestart => Sys2Proof.Machine.execMainframeRestart s
  | .trunkFrameCheckFail => Sys2Proof.Machine.execTrunkFrameCheckFail s
  | .trunkUnknownKind => Sys2Proof.Machine.execTrunkUnknownKind s
  | .selftestFrameDiscard => Sys2Proof.Machine.execSelftestFrameDiscard s
  | .burst f => Sys2Proof.Machine.execBurst f s
  | .mark => Sys2Proof.Machine.execMark s
  | .seriesPoint => Sys2Proof.Machine.execSeriesPoint s
  | .lineMarkDue k => Sys2Proof.Machine.execLineMarkDue k s
  | .linePulseEnd k => Sys2Proof.Machine.execLinePulseEnd k s
  | .monPulseEnd => Sys2Proof.Machine.execMonPulseEnd s
  | .beat => Sys2Proof.Machine.execBeat s
  | .beatExpiry => Sys2Proof.Machine.execBeatExpiry s
  | .ctrl r => Sys2Proof.Machine.execCtrl r s
  | .hubReset => Sys2Proof.Machine.execHubReset s
  | .getHub => Sys2Proof.Machine.execGetHub s
  | .setHub => Sys2Proof.Machine.execSetHub s
  | .writeProfile => Sys2Proof.Machine.execWriteProfile s
  | .readProfile => Sys2Proof.Machine.execReadProfile s
  | .swapProfile => Sys2Proof.Machine.execSwapProfile s
  | .setSite => Sys2Proof.Machine.execSetSite s
  | .setPair => Sys2Proof.Machine.execSetPair s
  | .joinSite => Sys2Proof.Machine.execJoinSite s
  | .retireSite => Sys2Proof.Machine.execRetireSite s
  | .clearSite => Sys2Proof.Machine.execClearSite s
  | .releaseSite => Sys2Proof.Machine.execReleaseSite s
  | .readSite => Sys2Proof.Machine.execReadSite s
  | .readRegion => Sys2Proof.Machine.execReadRegion s
  | .readCells => Sys2Proof.Machine.execReadCells s
  | .resume => Sys2Proof.Machine.execResume s
  | .unknownRequestKind => Sys2Proof.Machine.execUnknownRequestKind s
  | .reportFrameBuild => Sys2Proof.Machine.execReportFrameBuild s
  | .reportFrameSent => Sys2Proof.Machine.execReportFrameSent s
  | .interruptedReportResend => Sys2Proof.Machine.execInterruptedReportResend s
  | .flowFrameSend => Sys2Proof.Machine.execFlowFrameSend s
  | .coalescingTimerExpiry => Sys2Proof.Machine.execCoalescingTimerExpiry s
  | .summaryRecord => Sys2Proof.Machine.execSummaryRecord s
  | .launch k => Sys2Proof.Machine.execLaunch k s
  | .vectorBlockEnd k => Sys2Proof.Machine.execVectorBlockEnd k s
  | .controlFrameSend k => Sys2Proof.Machine.execControlFrameSend k s
  | .controlFrameEnd k => Sys2Proof.Machine.execControlFrameEnd k s
  | .patternRecognised k => Sys2Proof.Machine.execPatternRecognised k s
  | .trainFrameReceived k f => Sys2Proof.Machine.execTrainFrameReceived k f s
  | .headSymbolLockLoss k => Sys2Proof.Machine.execHeadSymbolLockLoss k s
  | .unknownHeadFrame k => Sys2Proof.Machine.execUnknownHeadFrame k s
  | .result k f => Sys2Proof.Machine.execResult k f s
  | .telemetry k f => Sys2Proof.Machine.execTelemetry k f s
  | .deadlineExpiry k => Sys2Proof.Machine.execDeadlineExpiry k s
  | .trainingLimitExpiry k => Sys2Proof.Machine.execTrainingLimitExpiry k s
  | .resetPinRelease => Sys2Proof.Machine.execResetPinRelease s
  | .flowFrameEnd => Sys2Proof.Machine.execFlowFrameEnd s

end Sys2Proof.Machine
end

