-- ==== Sys2Proof/Machine/Step.lean ====
section
/-! DEFINITION. One step: the command at the front of the queue; on an empty queue an event of the hub's own that is due,
or one tick of the clock (log entries 1 to 4). -/
namespace Sys2Proof.Machine

/-- A time that has come. -/
def State.come (s : State) (t : Option Nat) : Bool := t.any fun t => decide (t ≤ s.clock)

/-- An event that is due when a condition holds. -/
def dueWhen (condition : Bool) (event : Instr) : List Instr := if condition then [event] else []

/-- The end of the frame that the expander of site `i` is sending, as a command (R36). -/
def State.frameEndEvent (s : State) (i : SiteIx) : Instr :=
  match (s.site i).head.expander with
  | .control _ _ => .controlFrameEnd i
  | _ => .vectorBlockEnd i

/-- The events of a site that are due now: those whose time has come, and those that the Head Port makes at once when
their conditions hold (R36, R51, R66, R69, R93, R131). -/
def State.siteEvents (s : State) (i : SiteIx) : List Instr :=
  List.flatten [
    dueWhen (s.come ((s.site i).marks.scheduled.head?.map LineMark.due)) (.lineMarkDue i),
    dueWhen (s.come (s.site i).marks.pulseEnd) (.linePulseEnd i),
    dueWhen (s.come (s.frameEnds i)) (s.frameEndEvent i),
    dueWhen (s.come (s.firstDeadline i)) (.deadlineExpiry i),
    dueWhen (decide ((s.site i).run.state = .training) && s.come (s.site i).run.trainingLimit) (.trainingLimitExpiry i),
    dueWhen (!(s.site i).head.controlList.isEmpty && (s.site i).head.controlReady) (.controlFrameSend i),
    dueWhen (!(s.site i).head.launchQueue.isEmpty && s.launchReady i) (.launch i)]

/-- The events of the hub's other blocks that are due now (R59, R128, R139, R164, R167, R168, R187, R191). -/
def State.hubEvents (s : State) : List Instr :=
  List.flatten [
    dueWhen (s.come (s.selfTest.map SelfTest.endsAt)) (.selftestEnd (Config.selfTestFinding s.freeIndex)),
    dueWhen (s.come s.seriesDue) .seriesPoint,
    dueWhen (s.come s.marks.monPulse) .monPulseEnd,
    dueWhen (s.come s.beatDue) .beatExpiry,
    dueWhen s.owed.isSome .summaryRecord,
    dueWhen (s.trunk.pendingFlow.isSome && s.trunk.linkFree) .flowFrameSend,
    dueWhen (s.trunk.interrupted.isSome && s.trunk.linkFree && s.trunk.pendingFlow.isNone) .interruptedReportResend,
    dueWhen s.buildReady .reportFrameBuild]

/-- The events of the hub's own that are due now; none while the RESET pin is held low (R190). -/
def State.due (s : State) : List Instr :=
  if s.resetPin = .low then [] else s.hubEvents ++ allSites.flatMap s.siteEvents

/-- One tick of the hub's clock. -/
def State.tick (s : State) : State := { s with clock := s.clock + 1 }

/-- The next index of free values. -/
def State.drawn (s : State) : State := { s with freeIndex := s.freeIndex + 1 }

/-- With no command waiting: one of the events that are due is taken, which one being a free value when several are; with
none due the clock ticks. DESIGN CHOICE (log entries 3 and 4). -/
def idle (s : State) : Host.Outcome State Fault Refusal :=
  match s.due with
  | [] => .next s.tick
  | [c] => exec c s.drawn
  | c :: cs => exec ((c :: cs).getD (Config.eventOrder s.freeIndex % (cs.length + 1)) c) s.drawn

/-- One step of the hub: the command at the front of the queue is taken with the queue's rest. DESIGN CHOICE (log entry 1). -/
def step (s : State) : Host.Outcome State Fault Refusal :=
  match s.pending with
  | c :: rest => exec c { s with pending := rest }
  | [] => idle s

/-- The state with the command that a word spells at the front of its queue; unchanged where the word spells none. -/
def State.withFetchWord (s : State) (nbits w : Nat) : State :=
  (decodeTableWord nbits w).elim s fun c => { s with pending := c :: s.pending }

end Sys2Proof.Machine
end

