-- ==== Sys2Proof/Machine/Wire.lean ====
section
/-! DEFINITION. What stands on the hub's links, as bytes: record and frame layouts (R35, R192 to R198), and what each link
sends in each of its states (R141, R142, R184). -/
namespace Sys2Proof.Machine

/-! ### Records and upstream frames -/

/-- The bytes of a data item: its length and its values, each at its own width (R195). -/
def itemBytes (it : Item) : List Byte :=
  BitVec.ofNat 8 ((it.map WireField.width).sum) :: it.flatMap fun f => beBytes f.width f.value

/-- Four line slots of two bytes, those beyond the list sent as 0 (R197). -/
def lineSlots (lines : List Nat) : List Byte := (List.range 4).flatMap fun k => beBytes 2 (lines.getD k 0)

/-- A code or flag byte of a record. -/
def codeByte (v : Nat) : Byte := BitVec.ofNat 8 v

/-- The bytes of a record, its kind byte first (R157, R197). -/
def Record.bytes : Record → List Byte
  | .fail r =>
    [1, codeByte r.site.val] ++ halfBytes r.tag ++ [codeByte r.v] ++ beBytes 2 r.prow ++ beBytes 2 r.pcol
      ++ beBytes 2 r.mask ++ [codeByte (flagCode r.gap)]
  | .site r =>
    [2, codeByte r.site.val, codeByte r.state.code, codeByte ((r.primary.map Cause.code).getD 0),
      codeByte (causeBits r.additional), codeByte r.lock.code,
      codeByte (flagBits r.mapIncomplete r.failGap r.offsetSaturated r.unrepairable)] ++ beBytes 4 r.failingVectors
  | .region r =>
    [3, codeByte r.site.val, codeByte r.region.val, codeByte r.state.code, codeByte r.srRem, codeByte r.scRem,
      codeByte r.rows.length] ++ lineSlots r.rows ++ [codeByte r.cols.length] ++ lineSlots r.cols ++ [codeByte r.cells]
  | .hub r =>
    [4, codeByte r.hub.code, codeByte r.flow.code, codeByte (flagCode r.multTooFast), codeByte r.outcome.code]
  | .response r =>
    [5] ++ halfBytes r.id ++ [r.kind, codeByte r.code.code, codeByte (flagCode r.overflow)]
      ++ r.data.elim [0xFF#8] fun items => codeByte items.length :: items.flatMap itemBytes
  | .diag group outcome => [6, codeByte group.code, codeByte outcome.code]

/-- The payload of a REPORT frame: the record count and the records in queue order (R167, R195). -/
def reportPayload (records : List Record) : List Byte := codeByte records.length :: records.flatMap Record.bytes

/-- The bytes of an upstream frame (R195). -/
def UpFrame.bytes : UpFrame → List Byte
  | .report records => frameBytes 0x81#8 (reportPayload records)
  | .flow frame => frameBytes 0x82#8 [codeByte frame.code]

/-! ### Frames toward a head -/

/-- The bytes of one vector (R198). -/
def PatternVector.bytes (v : PatternVector) : List Byte :=
  codeByte v.op.code :: (beBytes 2 v.prow ++ beBytes 2 v.pcol ++ beBytes 2 v.pins)

/-- Kind, declared payload length and the payload bytes sent, of a frame toward a head (R198). DESIGN CHOICE: a frame ended
inside its header (R37, R38) shows kind, length, tag and n whole before its check, and a control frame ended early its site
number; the spec does not say how much of them has gone out by then (log entry 37). -/
def HeadFrame.sentPart : HeadFrame → List Byte
  | .vectorBlock tag n vectors =>
    envelope 0x11#8 (3 + 7 * n) (halfBytes tag ++ codeByte n :: vectors.flatMap PatternVector.bytes)
  | .control kind site => envelope kind.kindByte 1 [codeByte site.val]

/-- The bytes of a frame that ended on a head link: the check as computed, its one's complement, or none (R37, R193). -/
def HeadSent.bytes (f : HeadSent) : List Byte :=
  match f.check with
  | .good => f.frame.sentPart ++ halfBytes (crcOf f.frame.sentPart)
  | .inverted => f.frame.sentPart ++ halfBytes (~~~crcOf f.frame.sentPart)
  | .cutOff => f.frame.sentPart

/-- What a Head Port sends on its link at a moment (R36, R141, R142). -/
inductive HeadOutput where
  | nothing
  | trainingPattern
  | trainFrame (bytes : List Byte)
  | ready
  | block (tag : Half) (n next : Nat)
  | control (kind : ControlKind)
deriving DecidableEq, Repr

/-- The TRAIN frame that a Head Port sends in COARSE: site number and rate class (R142, R198). -/
def State.trainFrame (s : State) (i : SiteIx) : List Byte :=
  frameBytes 0x15#8 [codeByte i.val, codeByte (s.site i).head.rate.code]

/-- What the head link of a site carries toward the head: nothing when driven down, the training pattern in DOWN, TRAIN
frames in COARSE, and in FINE the expander's frame (R36, R141, R142, R146). -/
def State.headOutput (s : State) (i : SiteIx) : HeadOutput :=
  match (s.site i).head.drive, (s.site i).head.lock with
  | .drivenDown, _ => .nothing
  | .enabled, .down => .trainingPattern
  | .enabled, .coarse => .trainFrame (s.trainFrame i)
  | .enabled, .fine =>
    match (s.site i).head.expander with
    | .idle => .ready
    | .sending record began => .block record.desc.tag record.desc.n (s.nextIndex i record began)
    | .control kind _ => .control kind

/-- What the Trunk Port sends upstream at a moment (R59, R184). -/
inductive TrunkOutput where
  | alignment
  | endOfTraining
  | ready
  | frame (f : UpFrame)
deriving DecidableEq, Repr

/-- What the trunk link carries upstream: alignment sequences while it is not UP; at UP the hub's own end-of-training sequence,
until the first frame begins; then the frame being sent (R184). -/
def TrunkPort.output (t : TrunkPort) : TrunkOutput :=
  match t.link, t.upstream with
  | .up, .free => if t.sent = some .endOfTraining then .endOfTraining else .ready
  | .up, .report records _ => .frame (.report records)
  | .up, .flow frame => .frame (.flow frame)
  | _, _ => .alignment

end Sys2Proof.Machine
end

