-- ==== Sys2Proof/Safety.lean ====
section
/-! DEFINITION. What counts as a sound hub: the laws the manual states of the whole machine, as properties of a state. Claims
say that every step keeps them. -/
namespace Sys2Proof.Safety

open Sys2Proof.Machine

/-! ### Conditions that claims share -/

/-- The RESET pin is not held: commands have their effect (R190). -/
abbrev Released (s : State) : Prop := s.resetPin = .high

/-- The hub takes downstream frames: pin released, trunk link UP, not in SELFTEST (R186). -/
abbrev Receiving (s : State) : Prop := s.resetPin = .high ∧ s.trunk.link = .up ∧ s.hub ≠ .selftest

/-- Site `i` takes frames from its head: pin released, head link enabled and in FINE lock (R146). -/
abbrev Hearing (s : State) (i : SiteIx) : Prop :=
  s.resetPin = .high ∧ (s.site i).head.drive = .enabled ∧ (s.site i).head.lock = .fine

/-- The oldest request of the control intake is `r`, of a kind, and `rest` waits behind it (R175). -/
abbrev Asked (s : State) (kind : Byte) (r : CtrlRequest) (rest : List CtrlRequest) : Prop :=
  s.resetPin = .high ∧ s.agent.intake = r :: rest ∧ r.kind = kind

/-- The hub with the oldest request gone from the control intake, `rest` being left (R175). -/
def intakeLeft (s : State) (rest : List CtrlRequest) : State := { s with agent := { s.agent with intake := rest } }

/-- A 32-bit count one higher, staying at its largest value (R25, R141). -/
def oneMore (n : Nat) : Nat := min (n + 1) (2 ^ 32 - 1)

/-- A control list once a CUT has been raised: a POWER_ON that waits is removed and the CUT not added, else the CUT joins the
tail (R69). -/
def cutRaised (frames : List ControlKind) : List ControlKind :=
  if .powerOn ∈ frames then frames.erase .powerOn else frames ++ [.cut]

/-- Site `i` leaves test for RETIRED: state, CUT, line marks removed, summary-pending flag (R74, R76, R77, R82, R134). -/
def retiredSite (x : Site) : Site :=
  { x with
    run := { x.run with state := .retired }
    head := { x.head with controlList := cutRaised x.head.controlList }
    marks := { x.marks with scheduled := [] }
    reports := { x.reports with summaryPending := true } }

/-- A cause in a run record: primary when none is held, else in the additional set (R72). -/
def withCause (c : Cause) (r : RunRecord) : RunRecord :=
  match r.primary with
  | none => { r with primary := some c }
  | some _ => if c ∈ r.additional then r else { r with additional := insertCause c r.additional }

/-- A count raised by `k`, staying at its largest value once something has raised it there (R95, R98). -/
def raisedBy (n k : Nat) : Nat := if k = 0 then n else min (n + k) (2 ^ 32 - 1)

/-- The number of whole vectors of a frame that have gone out `elapsed` ticks after it began: one header time and then one
vector time each, 1 µs at FULL and 2 µs at HALF (R55; log entry 27). -/
def vectorsGone (rate : LinkRate) (elapsed n : Nat) : Nat :=
  min n (elapsed / (if rate = .full then 250 else 500) - 1)

/-- What stood last on head link `i` once a frame being sent, if any, has ended with its check as said (R36, R37; log entries
10, 27 and 37). -/
def lastSent (s : State) (i : SiteIx) (check : CheckSent) : Option HeadSent :=
  match (s.site i).head.expander with
  | .idle => (s.site i).head.sent
  | .sending record began => some ⟨.vectorBlock record.desc.tag record.desc.n
      ((List.range (vectorsGone (s.site i).head.rate (s.clock - began) record.desc.n)).map
        (vectorAt (s.bank record.bound).tables record.desc)), check⟩
  | .control kind _ => some ⟨.control kind i, check⟩

/-- The same where only a VECTOR_BLOCK frame ends, its record leaving the in-flight list (R37). -/
def lastBlock (s : State) (i : SiteIx) : Option HeadSent :=
  match (s.site i).head.expander with
  | .sending _ _ => lastSent s i .inverted
  | _ => (s.site i).head.sent

/-- The expander once a VECTOR_BLOCK frame that it sends has been cut short; any other frame goes on (R37). -/
def blockCut : Expander → Expander
  | .sending _ _ => .idle
  | e => e

/-- The copies that leave the hub's keeping when a site in ACTIVE or DRAINING is retired with abandonment (R14, R77). -/
def copiesLost (x : Site) : List BankRef :=
  (if x.run.state = .active then x.head.launchQueue.map LaunchEntry.bound else [])
    ++ x.head.inFlight.map InFlight.bound

/-- A site in ACTIVE or DRAINING retired with abandonment: from ACTIVE the launch queue is flushed, every in-flight record is
abandoned, a VECTOR_BLOCK frame being sent has ended, and the site is RETIRED (R37, R49, R77, R92). -/
def abandonedSite (x : Site) : Site :=
  retiredSite { x with
    head := { x.head with
      launchQueue := if x.run.state = .active then [] else x.head.launchQueue
      flushed := if x.run.state = .active then (x.head.flushed + x.head.launchQueue.length) % 2 ^ 48 else x.head.flushed
      inFlight := []
      expander := blockCut x.head.expander }
    mapper := { x.mapper with abandoned := (x.mapper.abandoned + x.head.inFlight.length) % 2 ^ 48 } }

/-- The entries of a fail list that are not malformed, `last` being the vector index of the entry kept before (R95); of the
index byte the low six bits count (R84, R194). -/
def keptEntries (t : Tables) (d : Descriptor) : Option Nat → List FailEntry → List FailEntry
  | _, [] => []
  | last, e :: es =>
    if d.op = .readCompare ∧ e.v.toNat % 64 < d.n ∧ e.mask.toNat % 2 ^ t.geometry.w ≠ 0
        ∧ last.all (fun l => decide (l < e.v.toNat % 64)) = true then
      e :: keptEntries t d (some (e.v.toNat % 64)) es
    else keptEntries t d last es

/-- The effective mask of a fail entry: its mask at the W pins, without the pins of the compare mask (R97). -/
def maskLeft (t : Tables) (mask : Half) : Nat :=
  (mask.toNat % 2 ^ t.geometry.w) &&& (2 ^ t.geometry.w - 1 - t.ck.toNat % 2 ^ t.geometry.w)

/-- The FAIL candidates of a fail list: its kept entries with pins left after the compare mask, with the physical row and column
that vector v of the frame carried (R39, R97, R99, R101). -/
def failCandidates (i : SiteIx) (t : Tables) (d : Descriptor) (es : List FailEntry) : List FailRecord :=
  ((keptEntries t d none es).filter fun e => maskLeft t e.mask ≠ 0).map fun e =>
    ⟨i, d.tag, e.v.toNat % 64, (vectorAt t d (e.v.toNat % 64)).prow, (vectorAt t d (e.v.toNat % 64)).pcol,
      maskLeft t e.mask, false⟩

/-- The fail cell events of a candidate: for each pin k set in its mask, ascending, the region floor(prow / 2^(RB−4)), the region
row prow mod 2^(RB−4) and the cell column pcol·W + k (R100). -/
def candidateEvents (g : Geometry) (r : FailRecord) : List (Nat × Nat × Nat) :=
  ((List.range g.w).filter fun k => r.mask.testBit k).map fun k =>
    (r.prow / 2 ^ (g.rb - 4), r.prow % 2 ^ (g.rb - 4), r.pcol * g.w + k)

/-- The candidates that the fail-record mode lets through while none is dropped: none in OFF, those below the limit in FIRST,
all in ALL (R160). -/
def wantedRecords (x : Site) (rs : List FailRecord) : List FailRecord :=
  match x.config.failMode with
  | .off => []
  | .first => rs.take (x.config.failLimit - x.reports.admitted)
  | .all => rs

/-- What a sample that trips nothing leaves in the Supply Supervisor: the latest current; in test the peak, and the blanking
counted down while it remains, else the over count raised above the trip level and 0 at or below it (R151, R153, R154). -/
def sampledSupply (x : Site) (current level : Nat) : SiteSupply :=
  if x.run.state.inTest = false then { x.supply with latest := some current }
  else if 0 < x.supply.blanking then
    { x.supply with
      latest := some current, peak := some (max (x.supply.peak.getD 0) current), blanking := x.supply.blanking - 1 }
  else
    { x.supply with
      latest := some current, peak := some (max (x.supply.peak.getD 0) current)
      overCount := if level < current then min (x.supply.overCount + 1) 16 else 0 }

/-- A site with the options of a SET_SITE at their applied values: the configuration, and with an offset O and A (R53, R135,
R145, R162, R178, R180). -/
def withOptions (o : SiteOptions) (x : Site) : Site :=
  { x with
    config := { x.config with
      retireOnUnrepairable := o.retire.getD x.config.retireOnUnrepairable
      failMode := (o.fail.bind FailOption.mode).getD x.config.failMode
      failLimit := (o.fail.bind FailOption.limit).elim x.config.failLimit fun v => max 1 (min v 65535)
      responseLimit := o.response.elim x.config.responseLimit fun v => max 1 (min v 255)
      lockEdges := o.edges.getD x.config.lockEdges
      gain := o.gain.elim x.config.gain fun v => min v 4
      errorMode := o.errorMode.getD x.config.errorMode
      initialOffset := o.offset.elim x.config.initialOffset fun v => min v 4095 }
    marks := o.offset.elim x.marks fun v => { x.marks with offset := min v 4095, residual := 0 } }

/-- A list of line marks in order of due time with one more, behind those due no later (R123, R131). -/
def markAdded (m : LineMark) (marks : List LineMark) : List LineMark :=
  marks.takeWhile (fun x => decide (x.due ≤ m.due)) ++ m :: marks.dropWhile (fun x => decide (x.due ≤ m.due))

/-- A number as one byte of a frame (R192). -/
def oneByte (n : Nat) : List Byte := [BitVec.ofNat 8 n]

/-- A number as two bytes of a frame, high byte first (R192). -/
def twoBytes (n : Nat) : List Byte := [BitVec.ofNat 8 (n / 256), BitVec.ofNat 8 n]

/-- An item of a request body: a length byte and that many value bytes (R195). -/
def itemSent (bytes : List Byte) : List Byte := BitVec.ofNat 8 bytes.length :: bytes

/-- An option of a request body: its item, or an item of length 0 where it is absent (R195). -/
def optionSent (option : Option (List Byte)) : List Byte := option.elim [0] itemSent

/-- The check bytes that end a frame: the check of its bytes as computed, its one's complement, or none (R37, R193). -/
def checkBytes (body : List Byte) : CheckSent → List Byte
  | .good => halfBytes (crcOf body)
  | .inverted => halfBytes (~~~crcOf body)
  | .cutOff => []

/-! ### Validation of a bank -/

/-- Check 1 of validation: every geometry field is in its range (R4, R16). -/
abbrev GeometryFits (g : Geometry) : Prop :=
  8 ≤ g.rb ∧ g.rb ≤ 16 ∧ 4 ≤ g.cb ∧ g.cb ≤ 10 ∧ (g.w = 4 ∨ g.w = 8 ∨ g.w = 16) ∧ g.sr ≤ 4 ∧ g.sc ≤ 4

/-- Check 2 fails at entry `i`: its source is N or above, or equals the source of a lower entry (R16). -/
abbrev SourceFails (t : Tables) (i : Fin 26) : Prop :=
  i.val < t.geometry.rb + t.geometry.cb
    ∧ (t.geometry.rb + t.geometry.cb ≤ t.map[i].source ∨ ∃ j : Fin 26, j < i ∧ t.map[j].source = t.map[i].source)

/-- Check 3 fails at entry `i`: it has a partner that is N or above, its own source, or the source of an entry with a partner
(R16). -/
abbrev PartnerFails (t : Tables) (i : Fin 26) : Prop :=
  i.val < t.geometry.rb + t.geometry.cb ∧ (t.map[i].partner.any fun p => decide (
    t.geometry.rb + t.geometry.cb ≤ p ∨ p = t.map[i].source
      ∨ ∃ j : Fin 26, j.val < t.geometry.rb + t.geometry.cb ∧ t.map[j].source = p ∧ t.map[j].partner ≠ none)) = true

/-- Check 4 fails at data bit `d`: its pin is W or above, or equals that of a lower data bit (R16). -/
abbrev PinFails (t : Tables) (d : Fin 16) : Prop :=
  d.val < t.geometry.w
    ∧ (t.geometry.w ≤ t.pinOrder[d] ∨ ∃ e : Fin 16, e < d ∧ t.pinOrder[e] = t.pinOrder[d])

/-! ### The screen passes of a region -/

/-- The values that occur more than `limit` times in a list, ascending, each once: the forced lines of a scan (R114, R115). -/
def linesOver (limit : Nat) (xs : List Nat) : List Nat :=
  (List.range (xs.foldr max 0 + 1)).filter fun x => decide (limit < xs.count x)

/-- A region with some rows assigned in order: their cells leave, a spare each is used, and the flag is set when there is one
(R115, R120). -/
def withRows (g : Region) (rows : List Nat) : Region :=
  { g with
    cells := g.cells.filter fun x => decide (x.row ∉ rows), srRem := g.srRem - rows.length, rows := g.rows ++ rows,
    summaryPending := g.summaryPending || !rows.isEmpty }

/-- A region with some columns assigned in order (R115, R120). -/
def withCols (g : Region) (cols : List Nat) : Region :=
  { g with
    cells := g.cells.filter fun x => decide (x.col ∉ cols), scRem := g.scRem - cols.length, cols := g.cols ++ cols,
    summaryPending := g.summaryPending || !cols.isEmpty }

/-- A region that has become UNREPAIRABLE: its state and its flag, everything else frozen (R117). -/
def condemned (g : Region) : Region := { g with state := .unrepairable, summaryPending := true }

/-- The rows that a row scan forces: more cells than spare columns left, the look-ahead cell counted (R111, R114). -/
def forcedRows (g : Region) (ahead : List (Nat × Nat)) : List Nat :=
  linesOver g.scRem (g.cells.map Cell.row ++ ahead.map Prod.fst)

/-- The columns that a column scan forces: more cells than spare rows left, the look-ahead cell counted (R111, R115). -/
def forcedCols (g : Region) (ahead : List (Nat × Nat)) : List Nat :=
  linesOver g.srRem (g.cells.map Cell.col ++ ahead.map Prod.snd)

/-- The screen passes and the bound check take a region, with a look-ahead cell while it is present, to another: the rules of
R113 to R117, one constructor for each way in which a pass, or the passes, can end. -/
inductive Screened : Region → List (Nat × Nat) → Region → Prop
  /-- A row scan forces more rows than spare rows are left: the lowest take the spares and the region is UNREPAIRABLE (R114). -/
  | rowsSpent (g : Region) (ahead : List (Nat × Nat)) :
      g.srRem < (forcedRows g ahead).length →
      Screened g ahead (condemned (withRows g ((forcedRows g ahead).take g.srRem)))
  /-- After the row scan, the column scan forces more columns than spare columns are left (R115). -/
  | colsSpent (g h : Region) (ahead left : List (Nat × Nat)) :
      (forcedRows g ahead).length ≤ g.srRem → h = withRows g (forcedRows g ahead) →
      left = ahead.filter (fun p => decide (p.1 ∉ forcedRows g ahead)) → h.scRem < (forcedCols h left).length →
      Screened g ahead (condemned (withCols h ((forcedCols h left).take h.scRem)))
  /-- A pass assigns a line, and another pass follows (R113). -/
  | again (g h k : Region) (ahead left : List (Nat × Nat)) :
      (forcedRows g ahead).length ≤ g.srRem → h = withRows g (forcedRows g ahead) →
      left = ahead.filter (fun p => decide (p.1 ∉ forcedRows g ahead)) → (forcedCols h left).length ≤ h.scRem →
      forcedRows g ahead ≠ [] ∨ forcedCols h left ≠ [] →
      Screened (withCols h (forcedCols h left)) (left.filter fun p => decide (p.2 ∉ forcedCols h left)) k →
      Screened g ahead k
  /-- A pass assigns none: the passes end, and the bound check makes the region UNREPAIRABLE or leaves it (R113, R116). -/
  | settled (g : Region) (ahead : List (Nat × Nat)) :
      forcedRows g ahead = [] → forcedCols g ahead = [] →
      Screened g ahead (if 2 * g.srRem * g.scRem < g.cells.length then condemned g else g)

/-! ### Ranges and capacities -/

/-- Every site's mark offset lies in 0..4095 and its residual in −3..3 (R138); the configured initial offset that a site
clear restores lies in the same range (R135). -/
abbrev MarksInRange (s : State) : Prop :=
  ∀ i : SiteIx, (s.site i).marks.offset ≤ 4095 ∧ (s.site i).config.initialOffset ≤ 4095
    ∧ -3 ≤ (s.site i).marks.residual ∧ (s.site i).marks.residual ≤ 3

/-- A launch queue holds at most 32 entries, and entries in ACTIVE alone; an in-flight list holds at most 16 records, and
records in ACTIVE and DRAINING alone (R49, R54, R61). -/
abbrev QueuesHeld (s : State) : Prop :=
  ∀ i : SiteIx, (s.site i).head.launchQueue.length ≤ 32 ∧ (s.site i).head.inFlight.length ≤ 16
    ∧ ((s.site i).run.state ≠ .active → (s.site i).head.launchQueue = [])
    ∧ ((s.site i).run.state ≠ .active → (s.site i).run.state ≠ .draining → (s.site i).head.inFlight = [])

/-- The two conservation relations of the pattern path, modulo 2^48 (R50, R92). -/
abbrev Conserved (s : State) : Prop :=
  ∀ i : SiteIx,
    (s.site i).head.copied % 2 ^ 48
        = ((s.site i).head.flushed + (s.site i).head.launched + (s.site i).head.launchQueue.length) % 2 ^ 48
    ∧ (s.site i).head.launched % 2 ^ 48
        = ((s.site i).mapper.answered + (s.site i).mapper.lost + (s.site i).mapper.abandoned
            + (s.site i).head.inFlight.length) % 2 ^ 48

/-- The banks that a site's launch-queue entries and in-flight records are bound to. -/
def boundBanks (x : Site) : List BankRef := x.head.launchQueue.map LaunchEntry.bound ++ x.head.inFlight.map InFlight.bound

/-- The number of copies bound to a bank, over all sites (R14). -/
def copiesBound (s : State) (r : BankRef) : Nat := (allSites.map fun i => (boundBanks (s.site i)).count r).sum

/-- Every bank's reference count is the number of launch-queue entries and in-flight records bound to it (R14). -/
abbrev RefsCounted (s : State) : Prop :=
  ∀ k : ProfileIx, (s.profile k).bankA.refCount = copiesBound s ⟨k, .a⟩
    ∧ (s.profile k).bankB.refCount = copiesBound s ⟨k, .b⟩

/-! ### The Report Queue and the control credit -/

/-- The number of RESPONSE records in the Report Queue. -/
def responsesWaiting (s : State) : Nat := (s.report.queue.filter fun r => r.record.isResponse).length

/-- At most four requests are outstanding: those in the intake and those whose RESPONSE records wait (R172, R173). -/
abbrev CreditKept (s : State) : Prop :=
  s.agent.outstanding = s.agent.intake.length + responsesWaiting s ∧ s.agent.outstanding ≤ 4

/-- The Report Queue holds at most 252 records that are no responses, and at most 256 in all (R158). -/
abbrev ReportBounded (s : State) : Prop :=
  s.report.queue.length ≤ 252 + responsesWaiting s ∧ s.report.queue.length ≤ 256

/-- The flow state is HELD whenever a HOLD level is reached, and FLOWING whenever the RELEASE levels are kept (R58). -/
abbrev FlowAgrees (s : State) : Prop :=
  (s.holdCondition = true → s.flow = .held) ∧ (s.releaseCondition = true → s.flow = .flowing)

/-- While the hub is in SELFTEST nothing has reached a block: sites, control intake and Report Queue stand at their reset
values, the flow state is FLOWING, and no bank is VALID, bound or about to be swapped (R83, R171, R172, R191). A self-test
in progress means SELFTEST, and so does a RESET pin held low (R190). -/
abbrev QuietInSelfTest (s : State) : Prop :=
  (s.selfTest.isSome → s.hub = .selftest)
    ∧ (s.resetPin = .low → s.hub = .selftest)
    ∧ (s.hub = .selftest → s.sites = Vector.replicate 8 Site.reset ∧ s.agent.intake = [] ∧ s.agent.outstanding = 0
        ∧ s.report.queue = [] ∧ s.report.hubPending = false ∧ s.flow = .flowing ∧ s.beat.limit = 0
        ∧ ∀ k : ProfileIx, (s.profile k).pendingSwap = false ∧ (s.profile k).bankA.valid = false
            ∧ (s.profile k).bankB.valid = false ∧ (s.profile k).bankA.refCount = 0 ∧ (s.profile k).bankB.refCount = 0)

/-! ### Banks and sites -/

/-- A VALID bank passes validation, and a pending swap has a VALID standby bank (R12, R15, R16). -/
abbrev BanksValid (s : State) : Prop :=
  ∀ k : ProfileIx, ((s.profile k).bankA.valid = true → (s.profile k).bankA.tables.validate = none)
    ∧ ((s.profile k).bankB.valid = true → (s.profile k).bankB.tables.validate = none)
    ∧ ((s.profile k).pendingSwap = true → (s.profile k).standbyBank.valid = true)

/-- A site in test uses a profile whose active bank is VALID and has the site's join geometry, and a pending swap of that
profile leaves the geometry as it is (R20). -/
abbrev SiteGeometryLocked (s : State) (i : SiteIx) : Prop :=
  (s.site i).run.state.inTest = true →
    ∀ k : ProfileIx, (s.site i).config.mode = .profile k →
      (s.profile k).activeBank.valid = true
        ∧ (s.site i).run.joinGeometry = some (s.profile k).activeBank.tables.geometry
        ∧ ((s.profile k).pendingSwap = true → (s.profile k).geometryDiffers = false)

/-- A site in test has a profile. -/
abbrev SiteHasProfile (s : State) (i : SiteIx) : Prop :=
  (s.site i).run.state ≠ .disabled → (s.site i).run.state ≠ .released → (s.site i).config.mode ≠ .disabled

/-- The law of R20 for every site. -/
abbrev GeometryLaw (s : State) : Prop := ∀ i : SiteIx, SiteGeometryLocked s i ∧ SiteHasProfile s i

/-- Every copy a site holds is bound to a VALID bank of the site's profile with the site's join geometry (R45, R99). -/
abbrev CopiesBoundRight (s : State) : Prop :=
  ∀ i : SiteIx, ∀ r ∈ boundBanks (s.site i), (s.site i).config.mode = .profile r.profile
    ∧ (s.bank r).valid = true ∧ (s.site i).run.joinGeometry = some (s.bank r).tables.geometry

/-! ### Head links and mark lines -/

/-- The head link stands as the table of site states says: driven down and DOWN in DISABLED, enabled from TRAINING to
RETIRED, in FINE lock in IDLE and in test; a driven-down link is in DOWN with an empty control list, and outside FINE lock
the expander is idle; a link that trains or is in test runs at its pair's rate class (R61, R69, R141, R142). -/
abbrev LinksFollow (s : State) : Prop :=
  ∀ i : SiteIx, ((s.site i).run.state = .disabled → (s.site i).head.drive = .drivenDown)
    ∧ ((s.site i).run.state ≠ .disabled → (s.site i).run.state ≠ .released → (s.site i).head.drive = .enabled)
    ∧ ((s.site i).run.state = .idle ∨ (s.site i).run.state.inTest = true → (s.site i).head.lock = .fine)
    ∧ ((s.site i).head.drive = .drivenDown → (s.site i).head.lock = .down ∧ (s.site i).head.controlList = [])
    ∧ ((s.site i).head.lock ≠ .fine → (s.site i).head.expander = .idle)
    ∧ ((s.site i).run.state = .released → (s.site i).head.drive = .enabled → (s.site i).head.lock = .fine)
    ∧ ((s.site i).run.state ≠ .disabled → (s.site i).run.state ≠ .released →
        (s.site i).head.rate = (s.pairOf i).rate)

/-- The frame an expander sends belongs to the newest record of the in-flight list (R36, R37). -/
abbrev ExpanderHoldsNewest (s : State) : Prop :=
  ∀ i : SiteIx, match (s.site i).head.expander with
    | .sending record _ => (s.site i).head.inFlight.getLast? = some record
    | _ => True

/-- The scheduled line marks stand in order of due time, and a site has some in PRIMED, ACTIVE and DRAINING alone (R123,
R134). -/
abbrev MarksScheduled (s : State) : Prop :=
  ∀ i : SiteIx, ((s.site i).marks.scheduled.map LineMark.due).Pairwise (· ≤ ·)
    ∧ ((s.site i).run.state.marked = false → (s.site i).marks.scheduled = [])

/-- The training limit runs in TRAINING and is stopped in every other state (R66). -/
abbrev TrainingTimed (s : State) : Prop :=
  ∀ i : SiteIx, (s.site i).run.state = .training ↔ (s.site i).run.trainingLimit.isSome = true

/-! ### Repair regions -/

/-- What a region keeps, for the spares it was laid out with: the spare accounting, a cell list of at most 32 cells without
a repeated position, and, while it is not UNREPAIRABLE, the bound, no cell in an assigned line, and no line over its limit
(R115, R116); a CLEAN region holds nothing (R104). -/
abbrev RegionSound (sr sc : Nat) (g : Region) : Prop :=
  g.rows.length + g.srRem = sr ∧ g.cols.length + g.scRem = sc
    ∧ g.cells.length ≤ 32 ∧ (g.cells.map fun x => (x.row, x.col)).Nodup ∧ g.rows.Nodup ∧ g.cols.Nodup
    ∧ (g.state = .clean → g.cells = [] ∧ g.rows = [] ∧ g.cols = [])
    ∧ (g.state ≠ .unrepairable →
        g.cells.length ≤ 2 * g.srRem * g.scRem
        ∧ (∀ x ∈ g.cells, x.row ∉ g.rows ∧ x.col ∉ g.cols)
        ∧ (∀ x ∈ g.cells, (g.cells.filter fun y => y.row = x.row).length ≤ g.scRem)
        ∧ ∀ x ∈ g.cells, (g.cells.filter fun y => y.col = x.col).length ≤ g.srRem)

/-- The spare rows and columns of a site's join geometry, 0 where it is absent (R115). -/
def joinSpares (x : Site) : Nat × Nat := x.run.joinGeometry.elim (0, 0) fun g => (g.sr, g.sc)

/-- Every region of every site is sound for the site's join geometry, and the join geometry has at most four spares of
each kind (R4, R115, R116). -/
abbrev RegionsSound (s : State) : Prop :=
  ∀ i : SiteIx, (joinSpares (s.site i)).1 ≤ 4 ∧ (joinSpares (s.site i)).2 ≤ 4
    ∧ ∀ g : RegionIx, RegionSound (joinSpares (s.site i)).1 (joinSpares (s.site i)).2 (s.site i).regions[g]

/-- A site that may come to JOIN_SITE has no cause, no flag, no counts and no region contents from an earlier run: in TRAINING
and IDLE these stand at their reset values (R65). -/
abbrev FreshBeforeJoin (s : State) : Prop :=
  ∀ i : SiteIx, (s.site i).run.state = .training ∨ (s.site i).run.state = .idle →
    (s.site i).run.primary = none ∧ (s.site i).run.additional = [] ∧ (s.site i).run.mapIncomplete = false
      ∧ (s.site i).run.unrepairable = false ∧ (s.site i).run.failGap = false ∧ (s.site i).run.offsetSaturated = false
      ∧ (s.site i).run.joinGeometry = none
      ∧ (s.site i).head.copied = 0 ∧ (s.site i).head.flushed = 0 ∧ (s.site i).head.launched = 0
      ∧ (s.site i).mapper.answered = 0 ∧ (s.site i).mapper.lost = 0 ∧ (s.site i).mapper.abandoned = 0
      ∧ (s.site i).mapper.failingVectors = 0 ∧ (s.site i).mapper.failingBits = 0
      ∧ (s.site i).reports.admitted = 0 ∧ (s.site i).reports.dropped = 0 ∧ (s.site i).reports.gapPending = false
      ∧ (s.site i).regions = Vector.replicate 16 Region.reset

/-- The site verdict is UNREPAIRABLE exactly when some region is (R119). -/
abbrev VerdictAgrees (s : State) : Prop :=
  ∀ i : SiteIx, (s.site i).run.unrepairable = true ↔ ∃ g : RegionIx, (s.site i).regions[g].state = .unrepairable

end Sys2Proof.Safety
end

