-- ==== Sys2Proof/Certificates/Slice0/Obligations.lean ====
section
/-! DEFINITION. The statements about the hub, one `def Obligations.<Name> : Prop` each. A statement about a command has the
command's whole next state as its conclusion, or names every part of the state that the command may change and says that the
rest is as before. -/

open Sys2Proof Sys2Proof.Machine Sys2Proof.Safety

/-! ### The queue of commands, the clock and the RESET pin -/

/-- A step takes the command at the front of the queue of waiting commands and runs it on the rest of the queue. The queue is
the model's own (log entry 1). -/
def Obligations.StepTakesTheFrontCommand : Prop :=
  ∀ (s : State) (c : Instr) (rest : List Instr), s.pending = c :: rest → step s = exec c { s with pending := rest }

/-- Every command ends in a next state; none touches the queue of waiting commands, and none turns the clock back. The queue and
the clock are the model's own (log entries 1 and 2). -/
def Obligations.CommandsCompleteAndKeepTheQueue : Prop :=
  ∀ (c : Instr) (s : State), ∃ t : State, exec c s = .next t ∧ t.pending = s.pending ∧ s.clock ≤ t.clock

/-! ### Frames on the links -/

/-- A downstream frame encoded by R192, R193 and R195 decodes to the command it was made from, and in SELFTEST to a discard, for
every BURST, MARK, BEAT and CTRL frame within its largest payload. The decoder of a received frame to a command is the model's
own (log entry 29). -/
def Obligations.TrunkFramesReadBack : Prop :=
  ∀ (c : Instr) (bytes : List Byte), c.wf = true → encodeTrunkFrame c = some bytes →
    decodeTrunkFrame false bytes = c ∧ decodeTrunkFrame true bytes = .selftestFrameDiscard

/-- A RESULT, TELEMETRY or TRAIN frame encoded by R192, R193 and R198 decodes, at the Head Port that receives it, to the command
it was made from. The decoder is the model's own (log entry 29). -/
def Obligations.HeadFramesReadBack : Prop :=
  ∀ (i : SiteIx) (bytes : List Byte),
    (∀ f : ResultFrame, f.wf = true → encodeHeadFrame (.result i (some f)) = some bytes →
      decodeHeadFrame i bytes = .result i (some f))
    ∧ (∀ f : TelemetryFrame, encodeHeadFrame (.telemetry i (some f)) = some bytes →
      decodeHeadFrame i bytes = .telemetry i (some f))
    ∧ (∀ f : TrainFrame, encodeHeadFrame (.trainFrameReceived i (some f)) = some bytes →
      decodeHeadFrame i bytes = .trainFrameReceived i (some f))

/-- What the hub sends, as bytes: each record field by field behind its kind byte, of the size that R197 gives; REPORT, FLOW,
VECTOR_BLOCK and control frames in their envelope, ended by the check as computed, by its one's complement, or cut off without
one (R37, R192, R193, R195, R197, R198). The check register starts at FFFFH and takes each byte most significant bit first, by
x^16 + x^12 + x^5 + 1; a frame sent with its check as computed ends at 0000H at the receiver, and one sent with the one's
complement does not; an upstream frame opens at the receiver to its kind and payload (R193). That a frame ended inside its
header, or a control frame ended early, shows the header or its site number whole is the model's choice (log entry 37). -/
def Obligations.FramesSentCarryTheirFieldsAndCheck : Prop :=
  (crcOf [] = 0xFFFF#16 ∧ ∀ (sent : List Byte) (b : Byte), crcOf (sent ++ [b])
      = [7, 6, 5, 4, 3, 2, 1, 0].foldl (fun (reg : BitVec 16) (k : Nat) =>
          if Bool.xor (reg.getLsbD 15) (b.getLsbD k) then (reg <<< 1) ^^^ 0x1021#16 else reg <<< 1) (crcOf sent))
  ∧ (∀ sent : List Byte, crcOf (sent ++ halfBytes (crcOf sent)) = 0#16
    ∧ crcOf (sent ++ halfBytes (~~~crcOf sent)) ≠ 0#16)
  ∧ (∀ r : FailRecord, (Record.fail r).bytes = oneByte 1 ++ oneByte r.site.val ++ twoBytes r.tag.toNat ++ oneByte r.v
      ++ twoBytes r.prow ++ twoBytes r.pcol ++ twoBytes r.mask ++ oneByte (if r.gap then 1 else 0))
  ∧ (∀ r : SiteRecord, (Record.site r).bytes = oneByte 2 ++ oneByte r.site.val ++ oneByte r.state.code
      ++ oneByte (r.primary.elim 0 Cause.code) ++ oneByte ((r.additional.map fun c => 2 ^ (c.code - 1)).sum)
      ++ oneByte r.lock.code
      ++ oneByte ((if r.mapIncomplete then 1 else 0) + (if r.failGap then 2 else 0) + (if r.offsetSaturated then 4 else 0)
          + (if r.unrepairable then 8 else 0))
      ++ twoBytes (r.failingVectors / 65536) ++ twoBytes r.failingVectors)
  ∧ (∀ r : RegionRecord, (Record.region r).bytes = oneByte 3 ++ oneByte r.site.val ++ oneByte r.region.val
      ++ oneByte r.state.code ++ oneByte r.srRem ++ oneByte r.scRem
      ++ oneByte r.rows.length ++ twoBytes (r.rows.getD 0 0) ++ twoBytes (r.rows.getD 1 0) ++ twoBytes (r.rows.getD 2 0)
      ++ twoBytes (r.rows.getD 3 0)
      ++ oneByte r.cols.length ++ twoBytes (r.cols.getD 0 0) ++ twoBytes (r.cols.getD 1 0) ++ twoBytes (r.cols.getD 2 0)
      ++ twoBytes (r.cols.getD 3 0) ++ oneByte r.cells)
  ∧ (∀ r : HubRecord, (Record.hub r).bytes = oneByte 4 ++ oneByte r.hub.code ++ oneByte r.flow.code
      ++ oneByte (if r.multTooFast then 1 else 0) ++ oneByte r.outcome.code)
  ∧ (∀ r : ResponseRecord, (Record.response r).bytes = oneByte 5 ++ twoBytes r.id.toNat ++ [r.kind] ++ oneByte r.code.code
      ++ oneByte (if r.overflow then 1 else 0)
      ++ match r.data with
        | none => oneByte 255
        | some items => oneByte items.length
            ++ items.flatMap fun it => oneByte (it.map WireField.width).sum ++ it.flatMap fun f => beBytes f.width f.value)
  ∧ (∀ (group : MemoryGroup) (outcome : TestOutcome),
      (Record.diag group outcome).bytes = oneByte 6 ++ oneByte group.code ++ oneByte outcome.code)
  ∧ (∀ (records : List Record) (payload : List Byte), payload = oneByte records.length ++ records.flatMap Record.bytes →
      (UpFrame.report records).bytes = [0x81] ++ twoBytes payload.length ++ payload
        ++ checkBytes ([0x81] ++ twoBytes payload.length ++ payload) .good
      ∧ (payload.length ≤ 4096 → openFrame (fun _ => 4096) (UpFrame.report records).bytes = some (0x81, payload)))
  ∧ (∀ frame : FlowFrame, openFrame (fun _ => 1) (UpFrame.flow frame).bytes
      = some (0x82, oneByte (if frame = .hold then 1 else 2)))
  ∧ (∀ (tag : Half) (n : Nat) (vectors : List PatternVector) (check : CheckSent) (body : List Byte),
      body = [0x11] ++ twoBytes (3 + 7 * n) ++ twoBytes tag.toNat ++ oneByte n ++ (vectors.flatMap fun v =>
        oneByte v.op.code ++ twoBytes v.prow ++ twoBytes v.pcol ++ twoBytes v.pins) →
      (HeadSent.mk (.vectorBlock tag n vectors) check).bytes = body ++ checkBytes body check)
  ∧ (∀ (kind : ControlKind) (site : SiteIx) (check : CheckSent) (body : List Byte),
      body = oneByte (match kind with
        | .powerOn => 0x12
        | .cut => 0x13
        | .release => 0x14) ++ twoBytes 1 ++ oneByte site.val →
      (HeadSent.mk (.control kind site) check).bytes = body ++ checkBytes body check)

/-! ### Burst expansion -/

/-- R29: the n logical addresses of one burst are distinct, under either order and either direction, and lie in the array. They
are the walk of R27 and R28 from the start row r0 mod 2^RB and the start column c0 mod 2^CB (R26): COL_FAST steps r·2^CB + c,
and ROW_FAST steps c·2^RB + r and then exchanges the two fields, up or down by v modulo 2^N. -/
def Obligations.LogicalAddressesOfABurstAreDistinct : Prop :=
  (∀ (g : Geometry) (d : Descriptor) (v w : Nat), g.inRange = true → d.n ≤ 64 → v < d.n → w < d.n →
    logicalAddr g d v < 2 ^ g.n ∧ (v ≠ w → logicalAddr g d v ≠ logicalAddr g d w))
  ∧ ∀ (g : Geometry) (d : Descriptor) (v row col : Nat), row = d.r0.toNat % 2 ^ g.rb → col = d.c0.toNat % 2 ^ g.cb →
    ∃ start stepped : Nat,
      start = (match d.order with
        | .colFast => row * 2 ^ g.cb + col
        | .rowFast => col * 2 ^ g.rb + row)
      ∧ (stepped : Int) = (match d.direction with
        | .up => (start : Int) + (v : Int)
        | .down => (start : Int) - (v : Int)) % 2 ^ (g.rb + g.cb)
      ∧ logicalAddr g d v = (match d.order with
        | .colFast => stepped
        | .rowFast => stepped % 2 ^ g.rb * 2 ^ g.cb + stepped / 2 ^ g.rb)

/-- Each bit of a physical address is the bit of the logical address that the map entry names as source, XOR its invert flag,
XOR the partner's bit where it has one (R5, R31). Validation makes its four checks in order: it names the first that fails and
the lowest index at which it fails, and passes a bank that meets all four (R4, R16). The address map of a bank that passes is a
bijection of the 2^N addresses (R16, R31). -/
def Obligations.ValidMapsAreBijections : Prop :=
  ∀ t : Tables,
    (∀ (l : Nat) (i : Fin 26), i.val < t.geometry.rb + t.geometry.cb →
      (physAddr t l).testBit i.val
        = Bool.xor (Bool.xor (l.testBit t.map[i].source) t.map[i].invert) (match t.map[i].partner with
          | some p => l.testBit p
          | none => false))
    ∧ (¬ GeometryFits t.geometry → t.validate = some (.geometryRange, 0))
    ∧ (GeometryFits t.geometry →
      (∀ i : Fin 26, SourceFails t i → (∀ j : Fin 26, j < i → ¬ SourceFails t j) →
        t.validate = some (.mapSource, i.val))
      ∧ ((∀ i : Fin 26, ¬ SourceFails t i) →
        (∀ i : Fin 26, PartnerFails t i → (∀ j : Fin 26, j < i → ¬ PartnerFails t j) →
          t.validate = some (.mapPartner, i.val))
        ∧ ((∀ i : Fin 26, ¬ PartnerFails t i) →
          (∀ d : Fin 16, PinFails t d → (∀ e : Fin 16, e < d → ¬ PinFails t e) →
            t.validate = some (.pinOrder, d.val))
          ∧ ((∀ d : Fin 16, ¬ PinFails t d) → t.validate = none))))
    ∧ (t.validate = none →
      (∀ l : Nat, physAddr t l < 2 ^ t.geometry.n)
      ∧ (∀ l m : Nat, l < 2 ^ t.geometry.n → m < 2 ^ t.geometry.n → physAddr t l = physAddr t m → l = m)
      ∧ (∀ p : Nat, p < 2 ^ t.geometry.n → ∃ l : Nat, l < 2 ^ t.geometry.n ∧ physAddr t l = p))

/-- R33: each data bit below W goes to its own pin, XOR the inversion flag, XOR the pin's bit of PI, and no pin at W or above is
set. A vector of a burst carries the burst's op, the physical row and column of its logical address (R31), and, for WRITE and
READ_COMPARE, the pin data of its pattern word and inversion flag: the word is D mod 2^W, complemented in W bits at odd v in
ALTERNATE (R26, R30), the flag is the parity of prow AND RM XOR that of pcol AND CM (R32); for READ_ONLY it carries 0 on every
pin (R34). -/
def Obligations.PinDataDrivesEachPinOnce : Prop :=
  (∀ (t : Tables) (data : Nat) (f : Bool), t.validate = none →
    pinData t data f < 2 ^ t.geometry.w
    ∧ ∀ d : Fin 16, d.val < t.geometry.w →
      (pinData t data f).testBit t.pinOrder[d]
        = Bool.xor (Bool.xor (data.testBit d.val) f) (t.pi.getLsbD t.pinOrder[d]))
  ∧ ∀ (t : Tables) (d : Descriptor) (v prow pcol word : Nat) (f : Bool),
    prow = physAddr t (logicalAddr t.geometry d v) / 2 ^ t.geometry.cb →
    pcol = physAddr t (logicalAddr t.geometry d v) % 2 ^ t.geometry.cb →
    word = (if d.dataMode = .alternate ∧ v % 2 = 1 then 2 ^ t.geometry.w - 1 - d.d.toNat % 2 ^ t.geometry.w
      else d.d.toNat % 2 ^ t.geometry.w) →
    f = Bool.xor
      (decide (((List.range t.geometry.rb).filter fun k => prow.testBit k && t.rm.getLsbD k).length % 2 = 1))
      (decide (((List.range t.geometry.cb).filter fun k => pcol.testBit k && t.cm.getLsbD k).length % 2 = 1)) →
    vectorAt t d v = ⟨d.op, prow, pcol, if d.op = .readOnly then 0 else pinData t word f⟩

/-! ### Resets and start-up -/

/-- POWER_ON_RESET gives every block its reset values and starts the 40 ms self-test, or, under a held pin, leaves the hub in
reset with none; RESET_PIN gives every block its reset values and holds the hub in reset, and RESET_PIN_RELEASE starts the
self-test (R190, R191). The model's choice, no rule of the spec: of the reset values, the outcome PASS, the rate class FULL of
each head link, no flow frame pending and no frame sent last on a link (log entries 7 and 10); that the banks keep their
contents under a held pin until the self-test zeroes them (log entry 8); that while the pin is held nothing but power-on and the
pin has an effect, and that power-on then leaves the pin held (log entry 12); the queue of commands, the clock and the count of
free values (log entries 1, 2 and 7). -/
def Obligations.PowerOnAndThePinResetEveryBlock : Prop :=
  ∀ s : State,
    (∀ c : Instr, s.resetPin = .low → c ≠ .powerOnReset → c ≠ .resetPin → c ≠ .resetPinRelease → exec c s = .next s)
    ∧ (s.resetPin = .low → exec .powerOnReset s = .next { State.reset with
      pending := s.pending, clock := s.clock, freeIndex := s.freeIndex, resetPin := .low, selfTest := none })
    ∧ (Released s → exec .powerOnReset s = .next { State.reset with
      pending := s.pending, clock := s.clock, freeIndex := s.freeIndex, selfTest := some ⟨false, s.clock + 10000000⟩ })
    ∧ (∃ t : State, exec .resetPin s = .next t
        ∧ t = { State.reset with
            pending := s.pending, clock := s.clock, freeIndex := s.freeIndex, resetPin := .low, selfTest := none,
            profiles := t.profiles }
        ∧ ∀ k : ProfileIx, t.profile k = Profile.reset (s.profile k).bankA.tables (s.profile k).bankB.tables)
    ∧ (s.resetPin = .low → exec .resetPinRelease s = .next
        { s with resetPin := .high, selfTest := some ⟨false, s.clock + 10000000⟩ })

/-- HUB_RESET gives every block its reset values, keeps the trunk link as it stands, cuts off a report frame being sent, makes a
RELEASE flow frame pending on an UP link, and runs the self-test for 40 ms or skips it in 2 ms (R171, R190, R191). A body that
is not one flag item is answered BAD_REQUEST and resets nothing (R195), where R174 says that HUB_RESET is not answered: the
model's reading (log entry 16). That the contents of the banks stand until the end of a self-test that runs, which zeroes them,
is the model's reading (log entry 8); so are the outcome PASS until a self-test ends, the rate class FULL of each head link,
that no flow frame is pending where the link is not UP (log entry 7), and the latest frame sent (log entry 10), and that a flow
frame being sent goes on to its end (log entry 9). -/
def Obligations.HubResetKeepsTheTrunkLink : Prop :=
  (∀ (s : State) (r : CtrlRequest) (rest : List CtrlRequest), Asked s 1 r rest → r.body ≠ [1, 0] → r.body ≠ [1, 1] →
    exec .hubReset s = .next ((intakeLeft s rest).respond r .badRequest none))
  ∧ ∀ (s : State) (r : CtrlRequest) (rest : List CtrlRequest) (skip : Bool),
    Asked s 1 r rest → r.body = [1, if skip then 1 else 0] →
    ∃ t : State, exec .hubReset s = .next t
      ∧ t = { State.reset with
          pending := s.pending, clock := s.clock, freeIndex := s.freeIndex, profiles := t.profiles,
          selfTest := some ⟨skip, s.clock + if skip then 500000 else 10000000⟩,
          trunk := { TrunkPort.reset with
            link := s.trunk.link, sequences := s.trunk.sequences,
            pendingFlow := if s.trunk.link = .up then some .release else none,
            upstream := t.trunk.upstream, sent := t.trunk.sent } }
      ∧ (∀ k : ProfileIx, t.profile k = Profile.reset (s.profile k).bankA.tables (s.profile k).bankB.tables)
      ∧ (s.trunk.upstream = .free → t.trunk.upstream = .free)
      ∧ (∀ frame : FlowFrame, s.trunk.upstream = .flow frame → t.trunk.upstream = .flow frame)
      ∧ ∀ (records : List Record) (again : Bool), s.trunk.upstream = .report records again →
          t.trunk.upstream = .free ∧ t.trunk.sent = some (.frame (.report records) .cutOff)

/-- R83: the values that every site takes at each of the three resets. -/
def Obligations.EverySiteTakesItsResetValues : Prop :=
  ∀ (s : State) (c : Instr),
    c = .powerOnReset ∨ c = .resetPin
      ∨ (c = .hubReset ∧ ∃ (r : CtrlRequest) (rest : List CtrlRequest) (skip : Bool),
          Asked s 1 r rest ∧ r.body = [1, if skip then 1 else 0]) →
    ∃ t : State, exec c s = .next t ∧ t.report.queue = [] ∧ ∀ i : SiteIx,
      (t.site i).run = {
        state := .disabled, primary := none, additional := [], mapIncomplete := false,
        unrepairable := false, failGap := false, offsetSaturated := false, joinGeometry := none, trainingLimit := none }
      ∧ (t.site i).config = {
        mode := .disabled, retireOnUnrepairable := false, failMode := .first, failLimit := 1024,
        responseLimit := 50, lockEdges := .loss, gain := 0, errorMode := .oneStep, initialOffset := 0 }
      ∧ (t.site i).head.drive = .drivenDown ∧ (t.site i).head.lock = .down ∧ (t.site i).head.controlList = []
      ∧ (t.site i).head.launchQueue = [] ∧ (t.site i).head.inFlight = [] ∧ (t.site i).head.expander = .idle
      ∧ (t.site i).head.copied = 0 ∧ (t.site i).head.flushed = 0 ∧ (t.site i).head.launched = 0
      ∧ (t.site i).head.fineLoss = 0 ∧ (t.site i).head.telemetryCheck = 0 ∧ (t.site i).head.unknownFrames = 0
      ∧ (t.site i).mapper = ⟨0, 0, 0, 0, 0, 0, 0, 0⟩
      ∧ (∀ g : RegionIx, (t.site i).regions[g] = ⟨.clean, 0, 0, [], [], [], 0, 0, false⟩)
      ∧ (t.site i).marks = ⟨0, 0, [], .low⟩ ∧ (t.site i).supply = ⟨none, none, 0, 0⟩
      ∧ (t.site i).reports = ⟨0, 0, false, false⟩

/-- SELFTEST_END: the DIAG records join the queue in group order, the outcome is set, a self-test that ran leaves every bank
zeroed, and the hub is READY with its summary-pending flag set; a skipped self-test leaves one record and the banks as they were
(R191). That the clock then stands at the self-test's end or later (log entry 2), and that the results of the groups come with
the command (log entry 5), are the model's choice; that the banks keep their contents until then is its reading (log entry 8).
-/
def Obligations.SelfTestEndMakesTheHubReady : Prop :=
  ∀ (s : State) (r : GroupResults) (test : SelfTest),
    Released s → QuietInSelfTest s → s.selfTest = some test →
    exec (.selftestEnd r) s = .next { s with
      clock := max s.clock test.endsAt, hub := .ready, selfTest := none,
      outcome := if test.skipped then .skipped
        else if r.profile && r.queues && r.regions && r.report then .pass else .fail,
      profiles := if test.skipped then s.profiles
        else Vector.replicate 4 (Profile.reset Tables.zeroed Tables.zeroed),
      report := { s.report with
        hubPending := true,
        queue := (if test.skipped then [Record.diag .all .skipped]
          else [.diag .profile (if r.profile then .pass else .fail), .diag .queues (if r.queues then .pass else .fail),
            .diag .regions (if r.regions then .pass else .fail), .diag .report (if r.report then .pass else .fail)]).map
              fun d => ⟨d, max s.clock test.endsAt⟩ } }

/-! ### The trunk link and the heartbeat -/

/-- Trunk training: the mainframe's alignment sequence takes the link from DOWN to TRAINING; there the error-free sequences in a
row are counted, an error setting the count back to 0; at the mainframe's end-of-training sequence a run of at least 16 makes
the hub send its own and the link UP, with a flow frame of the flow state pending; a loss of symbol lock in TRAINING falls to
DOWN uncounted (R59, R184, R185). The model's own, no rule of the spec: that what is received comes with the command, that the
count begins at 0 on entry to TRAINING, and that a run below 16 stands as the count after an end-of-training sequence that comes
too early (DESIGN CHOICE, log entry 13); that TRUNK_LINK_UP outside TRAINING changes nothing (log entry 2); the latest thing
sent (log entry 10). -/
def Obligations.TrunkTrainingBringsTheLinkUp : Prop :=
  ∀ (s : State) (received before : List AlignmentEvent) (n run : Nat), Released s →
    (received = List.replicate n .errorFree ∧ run = s.trunk.sequences + n)
      ∨ (received = before ++ .error :: List.replicate n .errorFree ∧ run = n) →
    (s.trunk.link = .down →
      exec .trunkTrainingStart s = .next { s with trunk := { s.trunk with link := .training, sequences := 0 } })
    ∧ (s.trunk.link = .training → 16 ≤ run → ∃ t : State, exec (.trunkLinkUp received) s = .next t
        ∧ t = { s with trunk := { s.trunk with
            link := .up, sequences := 0, sent := some .endOfTraining,
            pendingFlow := some (if s.flow = .held then .hold else .release) } }
        ∧ (s.trunk.upstream = .free → t.trunk.output = .endOfTraining))
    ∧ (s.trunk.link = .training → run < 16 → exec (.trunkLinkUp received) s = .next
        { s with trunk := { s.trunk with sequences := run } })
    ∧ (s.trunk.link ≠ .training → exec (.trunkLinkUp received) s = .next s)
    ∧ (s.trunk.link = .training →
        exec .trunkSymbolLockLoss s = .next { s with trunk := { s.trunk with link := .down, sequences := 0 } })

/-- A loss of an UP trunk link, to DOWN at a loss of symbol lock and to TRAINING at a mainframe restart: it is counted, a report
frame being sent becomes the interrupted report frame with its records in order, and the beat detector expires when it is on; no
record in the Report Queue and nothing of a site is touched (R168, R185, R188). The model's choice, no rule of the spec: the
count of sequences starts at 0 on the restart into TRAINING, the alignment that brought it not being counted (log entry 13); a
flow frame being sent is cut off and not made pending again (log entry 22); the latest frame sent is the model's own (log entry
10). -/
def Obligations.TrunkLossKeepsEveryRecord : Prop :=
  ∀ (s : State) (c : Instr) (target : LinkState), Released s → s.trunk.link = .up →
    (c = .trunkSymbolLockLoss ∧ target = .down) ∨ (c = .mainframeRestart ∧ target = .training) →
    ∃ t : State, exec c s = .next t
      ∧ t = { s with
          trunk := { s.trunk with
            link := target, sequences := 0, linkLoss := oneMore s.trunk.linkLoss, upstream := .free, sent := t.trunk.sent,
            interrupted := match s.trunk.upstream with
              | .report records _ => some records
              | _ => s.trunk.interrupted },
          beat := if s.beat.limit = 0 then s.beat else { s.beat with counter := none, seen := false },
          hub := if s.beat.limit ≠ 0 ∧ s.hub = .ready then .holdover else s.hub,
          report := { s.report with
            hubPending := s.report.hubPending || decide (s.beat.limit ≠ 0 ∧ s.hub = .ready) } }

/-- What arrives on the trunk link and is not taken: a frame that fails its check is counted whatever the hub state, one of an
undefined kind outside SELFTEST alone, and a good frame in SELFTEST is not counted (R186, R191). A CTRL frame's request joins
the tail of the intake while fewer than four requests are outstanding; at four it is discarded, counted, and the
overflow-pending flag is set (R173). -/
def Obligations.TrunkArrivalsAreTakenOrCounted : Prop :=
  ∀ (s : State) (r : CtrlRequest), Released s →
    (s.trunk.link = .up → exec .trunkFrameCheckFail s = .next
      { s with trunk := { s.trunk with frameCheck := oneMore s.trunk.frameCheck } })
    ∧ (Receiving s → exec .trunkUnknownKind s = .next
      { s with trunk := { s.trunk with unknownKind := oneMore s.trunk.unknownKind } })
    ∧ (s.hub = .selftest → exec .trunkUnknownKind s = .next s)
    ∧ exec .selftestFrameDiscard s = .next s
    ∧ (Receiving s → s.agent.outstanding < 4 → exec (.ctrl r) s = .next { s with agent := { s.agent with
      intake := s.agent.intake ++ [r], outstanding := s.agent.outstanding + 1 } })
    ∧ (Receiving s → 4 ≤ s.agent.outstanding → exec (.ctrl r) s = .next { s with agent := { s.agent with
      overflows := oneMore s.agent.overflows, overflowPending := true } })

/-- The heartbeat: a BEAT restarts the beat counter and sets the beat-seen flag, whatever BL is; when the counter reaches BL ×
10 µs the flag clears, the counter stops, and READY becomes HOLDOVER with the hub's summary-pending flag set; RESUME in HOLDOVER
with the beat-seen flag set makes the hub READY, flags it and is answered OK, and in any other case is refused with BAD_STATE,
and one that carries anything with BAD_REQUEST (R187, R188, R189, R195). That the clock stands at the expiry's time or later is
the model's choice (log entry 2); that a BEAT starts the counter with BL 0 as well is its reading (log entry 21). -/
def Obligations.HeartbeatHoldoverAndResume : Prop :=
  ∀ (s : State) (started : Nat) (r : CtrlRequest) (rest : List CtrlRequest),
    (Receiving s → exec .beat s = .next { s with beat := { s.beat with counter := some s.clock, seen := true } })
    ∧ (Released s → s.hub ≠ .selftest → s.beat.limit ≠ 0 → s.beat.counter = some started →
        exec .beatExpiry s = .next { s with
          clock := max s.clock (started + s.beat.limit * 2500),
          beat := { s.beat with counter := none, seen := false },
          hub := .holdover,
          report := { s.report with hubPending := s.report.hubPending || decide (s.hub = .ready) } })
    ∧ (Asked s 16 r rest → r.body = [] → s.hub = .holdover → s.beat.seen = true →
        exec .resume s = .next (({ intakeLeft s rest with
          hub := .ready, report := { s.report with hubPending := true } } : State).respond r .ok none))
    ∧ (Asked s 16 r rest → r.body = [] → s.hub = .ready ∨ s.beat.seen = false →
        exec .resume s = .next ((intakeLeft s rest).respond r .badState none))
    ∧ (Asked s 16 r rest → r.body ≠ [] → exec .resume s = .next ((intakeLeft s rest).respond r .badRequest none))

/-! ### Bursts -/

/-- BURST: a frame whose count is 0 or above 64, or whose op, order, direction or data mode names nothing, is discarded and
counted and changes nothing else (R25). An accepted burst that finds no site ACTIVE is counted as a burst and an idle burst
(R46). Otherwise every ACTIVE site, each having room, takes one copy bound to the active bank of its profile, the copied count
and the bank's reference count rising with it, every other site is as before, and the flow state is read once (R44, R45, R57). A
gap in the tags is counted and gives MAP_INCOMPLETE to the ACTIVE sites (R42, R43). The model's reading of R194 and R195: n is
examined whole, so that a count of 128 to 255 is above 64 and is discarded (log entry 36), and of c0 the low 10 bits are kept in
the copy (log entries 27 and 36). -/
def Obligations.BurstsAreCopiedToTheActiveSites : Prop :=
  ∀ (s : State) (f : BurstFrame) (gap : Bool), Receiving s →
    gap = s.sorter.lastTag.any (fun last => decide (f.tag ≠ last + 1)) →
    ((f.n = 0 ∨ 64 < f.n.toNat ∨ f.op ∉ ([1, 2, 3] : List Byte) ∨ f.order ∉ ([1, 2] : List Byte)
        ∨ f.direction ∉ ([1, 2] : List Byte) ∨ f.dataMode ∉ ([1, 2] : List Byte)) →
      exec (.burst f) s = .next { s with sorter := { s.sorter with badDescriptors := oneMore s.sorter.badDescriptors } })
    ∧ ∀ (op : Op) (order : Order) (direction : Direction) (mode : DataMode),
      1 ≤ f.n.toNat → f.n.toNat ≤ 64 → Op.ofCode f.op = some op → Order.ofCode f.order = some order →
      Direction.ofCode f.direction = some direction → DataMode.ofCode f.dataMode = some mode →
      ((∀ i : SiteIx, (s.site i).run.state ≠ .active) →
        exec (.burst f) s = .next { s with
          sorter := { s.sorter with
            lastTag := some f.tag
            sequenceGaps := if gap then oneMore s.sorter.sequenceGaps else s.sorter.sequenceGaps },
          replicator := { s.replicator with
            bursts := oneMore s.replicator.bursts, idleBursts := oneMore s.replicator.idleBursts } })
      ∧ ((∃ i : SiteIx, (s.site i).run.state = .active) →
        (∀ i : SiteIx, (s.site i).run.state = .active →
          (s.site i).config.mode ≠ .disabled ∧ (s.site i).head.launchQueue.length < 32) →
        ∃ t : State, exec (.burst f) s = .next t.readFlow
          ∧ (∀ i : SiteIx, (s.site i).run.state ≠ .active → t.site i = s.site i)
          ∧ (∀ (i : SiteIx) (k : ProfileIx), (s.site i).run.state = .active → (s.site i).config.mode = .profile k →
            t.site i = { s.site i with
              head := { (s.site i).head with
                launchQueue := (s.site i).head.launchQueue
                  ++ [⟨⟨f.tag, op, f.r0, f.c0.setWidth 10, f.n.toNat, order, direction, mode, f.d⟩,
                      ⟨k, (s.profile k).active⟩⟩]
                copied := ((s.site i).head.copied + 1) % 2 ^ 48 },
              run := { (s.site i).run with mapIncomplete := (s.site i).run.mapIncomplete || gap },
              reports := { (s.site i).reports with
                summaryPending := (s.site i).reports.summaryPending || (gap && !(s.site i).run.mapIncomplete) } })
          ∧ (∀ (k : ProfileIx) (name : BankName),
            (t.profile k).active = (s.profile k).active ∧ (t.profile k).pendingSwap = (s.profile k).pendingSwap
            ∧ (t.profile k).bank name = { (s.profile k).bank name with
                refCount := ((s.profile k).bank name).refCount
                  + (allSites.filter fun i => decide ((s.site i).run.state = .active
                      ∧ (s.site i).config.mode = .profile k ∧ (s.profile k).active = name)).length })
          ∧ t = { s with
              sites := t.sites, profiles := t.profiles,
              sorter := { s.sorter with
                lastTag := some f.tag
                sequenceGaps := if gap then oneMore s.sorter.sequenceGaps else s.sorter.sequenceGaps },
              replicator := { s.replicator with bursts := oneMore s.replicator.bursts } })

/-- A burst that finds ACTIVE sites with 32 entries in their launch queues: each takes no copy, its queue is flushed into the
flushed count, cause PATTERN_LOSS is recorded, and it enters DRAINING, or RETIRED when nothing is in flight; at the same burst
every ACTIVE site with room takes its copy, every other site is as before, and each bank's reference count loses the flushed
entries and gains the copies bound to it, the flow state being read once, after all eight sites; a gap in the tags first gives
MAP_INCOMPLETE to the ACTIVE sites (R14, R42 to R45, R47, R49, R57, R75). That n is examined whole (log entry 36), the 10 bits
of c0 that a copy keeps, and the additional-cause set as a list in the order of the codes (log entry 27) are the model's. -/
def Obligations.AFullLaunchQueueLosesTheRun : Prop :=
  ∀ (s : State) (f : BurstFrame) (d : Descriptor) (gap : Bool) (full : List SiteIx), Receiving s →
    gap = s.sorter.lastTag.any (fun last => decide (f.tag ≠ last + 1)) → descriptorOf f = some d →
    full = (allSites.filter fun i =>
      decide ((s.site i).run.state = .active ∧ 32 ≤ (s.site i).head.launchQueue.length)) → full ≠ [] →
    (∀ i : SiteIx, (s.site i).run.state = .active → (s.site i).config.mode ≠ .disabled) →
    (∀ r : BankRef, ((full.flatMap fun i => (s.site i).head.launchQueue.map LaunchEntry.bound).count r)
      ≤ (s.bank r).refCount) →
    ∃ t : State, exec (.burst f) s = .next t.readFlow
      ∧ (∀ (i : SiteIx) (run : RunRecord) (x : Site), i ∈ full →
        run = { (s.site i).run with mapIncomplete := (s.site i).run.mapIncomplete || gap } →
        x = { s.site i with
          run := { withCause .patternLoss run with state := .draining },
          head := { (s.site i).head with
            launchQueue := [], flushed := ((s.site i).head.flushed + (s.site i).head.launchQueue.length) % 2 ^ 48 },
          reports := { (s.site i).reports with summaryPending := true } } →
        t.site i = if (s.site i).head.inFlight = [] then retiredSite x else x)
      ∧ (∀ (i : SiteIx) (k : ProfileIx), (s.site i).run.state = .active → i ∉ full → (s.site i).config.mode = .profile k →
        t.site i = { s.site i with
          head := { (s.site i).head with
            launchQueue := (s.site i).head.launchQueue ++ [⟨d, ⟨k, (s.profile k).active⟩⟩]
            copied := ((s.site i).head.copied + 1) % 2 ^ 48 },
          run := { (s.site i).run with mapIncomplete := (s.site i).run.mapIncomplete || gap },
          reports := { (s.site i).reports with
            summaryPending := (s.site i).reports.summaryPending || (gap && !(s.site i).run.mapIncomplete) } })
      ∧ (∀ i : SiteIx, (s.site i).run.state ≠ .active → t.site i = s.site i)
      ∧ (∀ (k : ProfileIx) (name : BankName),
        (t.profile k).active = (s.profile k).active ∧ (t.profile k).pendingSwap = (s.profile k).pendingSwap
        ∧ (t.profile k).bank name = { (s.profile k).bank name with
            refCount := ((s.profile k).bank name).refCount
              + (allSites.filter fun i => decide ((s.site i).run.state = .active ∧ i ∉ full
                  ∧ (s.site i).config.mode = .profile k ∧ (s.profile k).active = name)).length
              - (full.flatMap fun i => (s.site i).head.launchQueue.map LaunchEntry.bound).count ⟨k, name⟩ })
      ∧ t = { s with
          sites := t.sites, profiles := t.profiles,
          sorter := { s.sorter with
            lastTag := some f.tag
            sequenceGaps := if gap then oneMore s.sorter.sequenceGaps else s.sorter.sequenceGaps },
          replicator := { s.replicator with bursts := oneMore s.replicator.bursts } }

/-! ### Marks -/

/-- MARK, the mark point: every pending swap is performed and no other profile changes; PRIMED sites enter ACTIVE and ARMED
sites PRIMED, flagged, and no other site moves, the flow state being read of them; the frame mark is counted and its interval
measured; a pending mark setting takes effect; MULT_TOO_FAST newly set flags the hub; in READY and HOLDOVER, with the trunk link
UP and with it down, and not in SELFTEST (R21, R48, R57, R70, R124, R125, R129, R191). That no other downstream frame acts with
the link down is the model's reading (log entry 34). -/
def Obligations.TheMarkPointSwapsMovesAndCounts : Prop :=
  ∀ s : State, Released s →
    (s.hub = .selftest → exec .mark s = .next s) ∧ (s.hub ≠ .selftest →
    ∃ t u : State, exec .mark s = .next t
      ∧ u = ({ s with profiles := t.profiles, sites := t.sites } : State).readFlow
      ∧ (∀ k : ProfileIx, t.profile k =
          if (s.profile k).pendingSwap then
            { s.profile k with active := (s.profile k).active.other, pendingSwap := false }
          else s.profile k)
      ∧ (∀ i : SiteIx, t.site i = { s.site i with
          run := { (s.site i).run with
            state := match (s.site i).run.state with
              | .armed => .primed
              | .primed => .active
              | st => st },
          reports := { (s.site i).reports with
            summaryPending := (s.site i).reports.summaryPending
              || decide ((s.site i).run.state = .armed ∨ (s.site i).run.state = .primed) },
          marks := { (s.site i).marks with scheduled := (t.site i).marks.scheduled } })
      ∧ t.replicator = { s.replicator with frameMarks := oneMore s.replicator.frameMarks }
      ∧ t.marks.lastFrameMark = some s.clock
      ∧ t.marks.interval = (match s.marks.lastFrameMark with
          | some last => some (min (s.clock - last) (2 ^ 32 - 1))
          | none => s.marks.interval)
      ∧ t.marks.setting = s.marks.pendingSetting.getD s.marks.setting ∧ t.marks.pendingSetting = none
      ∧ t.marks.monSelect = s.marks.monSelect ∧ t.marks.monPulse = some (s.clock + 8)
      ∧ t = { u with
          replicator := t.replicator, marks := t.marks,
          report := { u.report with
            hubPending := u.report.hubPending || (t.marks.multTooFast && !s.marks.multTooFast) } })

/-- MARK, the service of the frame mark under the mode that is then in force: the lifecycle mark of each site that moves, 32
ticks wide into PRIMED and 8 into ACTIVE, in every mode; the normal mark of each site in ACTIVE or DRAINING at a series point 0;
the thin count; the series of MULTIPLY and its fallback with MULT_TOO_FAST (R125 to R132). -/
def Obligations.FrameMarksAreServedByTheModeInForce : Prop :=
  ∀ (s : State) (m : MarkSetting) (thin : Nat) (interval : Option Nat), Released s → s.hub ≠ .selftest →
    m = s.marks.pendingSetting.getD s.marks.setting →
    thin = (if s.marks.pendingSetting.isSome then 0 else s.marks.thinCount) →
    interval = (match s.marks.lastFrameMark with
      | some last => some (min (s.clock - last) (2 ^ 32 - 1))
      | none => s.marks.interval) →
    ∃ t : State, exec .mark s = .next t
      ∧ (∀ i : SiteIx, (t.site i).marks.scheduled = match (s.site i).run.state with
          | .armed => markAdded ⟨s.clock + (s.site i).marks.offset, 32⟩ (s.site i).marks.scheduled
          | .primed => markAdded ⟨s.clock + (s.site i).marks.offset, 8⟩ (s.site i).marks.scheduled
          | .active | .draining =>
            if m.mode ≠ .thin ∨ thin = 0 then
              markAdded ⟨s.clock + (s.site i).marks.offset, 8⟩ (s.site i).marks.scheduled
            else (s.site i).marks.scheduled
          | _ => (s.site i).marks.scheduled)
      ∧ t.marks.thinCount = (if m.mode = .thin then (thin + 1) % m.divider else thin)
      ∧ (m.mode ≠ .multiply → t.marks.series = none
          ∧ (s.marks.setting.mode = .multiply → t.marks.multTooFast = false)
          ∧ (s.marks.setting.mode ≠ .multiply → t.marks.multTooFast = s.marks.multTooFast))
      ∧ (m.mode = .multiply → interval = none →
          t.marks.series = none ∧ t.marks.multTooFast = s.marks.multTooFast)
      ∧ (∀ ticks : Nat, m.mode = .multiply → interval = some ticks → ticks / m.divider < 256 →
          t.marks.series = none ∧ t.marks.multTooFast = true
          ∧ (s.marks.multTooFast = false → t.report.hubPending = true))
      ∧ (∀ ticks : Nat, m.mode = .multiply → interval = some ticks → 256 ≤ ticks / m.divider →
          t.marks.multTooFast = false
          ∧ t.marks.series = if 1 < m.divider then some ⟨1, m.divider, ticks / m.divider⟩ else none)

/-- SERIES_POINT serves the next point of the series at its time with one normal mark for each site in PRIMED, ACTIVE or
DRAINING; LINE_MARK_DUE takes the oldest scheduled mark off the list and raises the line to the latest end of the overlapping
marks; LINE_PULSE_END drops the line there; MON_PULSE_END ends the FRAME_MARK pulse; and the MON line stands, at every moment,
at the level of the source that the MON select names (R128, R131, R139). That the clock stands at the event's time or later is
the model's choice (log entry 2), and so is that a pulse waits for a mark due before its end (log entry 26). -/
def Obligations.SeriesPointsAndLinePulses : Prop :=
  ∀ (s : State) (i : SiteIx), Released s →
    (∀ (x : Series) (first point : Nat), s.marks.series = some x → s.marks.lastFrameMark = some first →
      point = first + x.next * x.spacing →
      ∃ t : State, exec .seriesPoint s = .next t
        ∧ (∀ j : SiteIx, t.site j = { s.site j with marks := { (s.site j).marks with
            scheduled := if (s.site j).run.state = .primed ∨ (s.site j).run.state = .active
                ∨ (s.site j).run.state = .draining then
              markAdded ⟨point + (s.site j).marks.offset, 8⟩ (s.site j).marks.scheduled
            else (s.site j).marks.scheduled } })
        ∧ t = { s with
            clock := max s.clock point, sites := t.sites,
            marks := { s.marks with
              series := if x.next + 1 < x.count then some { x with next := x.next + 1 } else none } })
    ∧ (∀ (m : LineMark) (rest : List LineMark), (s.site i).marks.scheduled = m :: rest →
      exec (.lineMarkDue i) s = .next (({ s with clock := max s.clock m.due } : State).modMarks i fun x => { x with
        scheduled := rest
        line := match x.line with
          | .low => .high (m.due + m.width)
          | .high e => .high (max e (m.due + m.width)) }))
    ∧ (∀ e : Nat, (s.site i).marks.line = .high e → (∀ m ∈ (s.site i).marks.scheduled, e ≤ m.due) →
      exec (.linePulseEnd i) s = .next (({ s with clock := max s.clock e } : State).modMarks i fun x =>
        { x with line := .low }))
    ∧ (∀ e : Nat, s.marks.monPulse = some e → exec .monPulseEnd s = .next
        { s with clock := max s.clock e, marks := { s.marks with monPulse := none } })
    ∧ s.monLevel = (match s.marks.monSelect with
      | .none => .low
      | .frameMark => if s.marks.monPulse = none then .low else .high
      | .site j => if (s.site j).marks.line = .low then .low else .high
      | .held => if s.flow = .held then .high else .low
      | .holdover => if s.hub = .holdover then .high else .low)

/-! ### Requests -/

/-- Each of the fifteen answered request kinds, and an unknown kind: taking the oldest request removes it from the intake and
adds one RESPONSE record at the tail of the Report Queue, with the request's id and kind, the code and the overflow-pending
flag, which it clears; a code other than OK means that nothing else changes but what the Flow Monitor reads from the longer
queue; an unknown kind is answered BAD_REQUEST (R175, R176, R177). That one command for each kind takes the oldest request is
the model's (log entry 11). -/
def Obligations.EveryRequestIsAnsweredOnce : Prop :=
  ∀ (s : State) (c : Instr) (kind : Byte) (r : CtrlRequest) (rest : List CtrlRequest), Asked s kind r rest →
    (c, kind) ∈ ([(.getHub, 2), (.setHub, 3), (.writeProfile, 4), (.readProfile, 5), (.swapProfile, 6), (.setSite, 7),
        (.setPair, 8), (.joinSite, 9), (.retireSite, 10), (.clearSite, 11), (.releaseSite, 12), (.readSite, 13),
        (.readRegion, 14), (.readCells, 15), (.resume, 16)] : List (Instr × Byte))
      ∨ (c = .unknownRequestKind ∧ (kind = 0 ∨ 16 < kind.toNat)) →
    ∃ (t : State) (code : RespCode) (data : Option (List Item)), exec c s = .next t
      ∧ t.report.queue = s.report.queue
          ++ [⟨.response ⟨r.id, kind, code, data, s.agent.overflowPending⟩, s.clock⟩]
      ∧ t.agent = { s.agent with intake := rest, overflowPending := false }
      ∧ (code ≠ .ok → t = ({ s with
          agent := t.agent, report := { s.report with queue := t.report.queue } } : State).readFlow)
      ∧ (c = .unknownRequestKind → code = .badRequest)

/-- The reads change nothing but the intake and the Report Queue, and answer what the hub then holds: GET_HUB in its three parts
(R181), READ_PROFILE in its three parts (R13), the items coded as section 12.2 gives. Every other body is refused with
BAD_REQUEST and its data absent: a part or bank code that names nothing, a profile index outside 0..3, for part MAP a count
outside 1..8 or a first index and count beyond 26 entries, and items that do not fill the body or differ in number or width
(R10, R13, R176, R177, R178, R181, R195). The widths of the items (log entry 14), and the three trunk counters in one item in
the order link losses, frame checks, unknown kinds (log entry 17), are the model's reading. -/
def Obligations.HubAndProfileReadsAnswerWhatIsHeld : Prop :=
  ∀ (s : State) (r : CtrlRequest) (rest : List CtrlRequest) (k : ProfileIx) (name : BankName) (b : Bank),
    b = (s.profile k).bank name →
    (Asked s 2 r rest →
      (r.body = [1, 1] → exec .getHub s = .next ((intakeLeft s rest).respond r .ok (some
        [Item.byte s.hub.code, Item.byte s.outcome.code, Item.flag s.beat.seen, Item.byte s.flow.code,
          Item.half s.report.queue.length, Item.flag s.trunk.interrupted.isSome, Item.half s.agent.outstanding,
          Item.word s.agent.overflows])))
      ∧ (r.body = [1, 2] → exec .getHub s = .next ((intakeLeft s rest).respond r .ok (some
        [Item.word s.replicator.bursts, Item.word s.replicator.idleBursts, Item.word s.sorter.badDescriptors,
          Item.word s.sorter.sequenceGaps, Item.word s.replicator.frameMarks,
          Item.opt (fun tag => Item.half tag.toNat) s.sorter.lastTag,
          [⟨4, s.trunk.linkLoss⟩, ⟨4, s.trunk.frameCheck⟩, ⟨4, s.trunk.unknownKind⟩]])))
      ∧ (r.body = [1, 3] → exec .getHub s = .next ((intakeLeft s rest).respond r .ok (some
        [Item.bytes [s.marks.setting.mode.code, s.marks.setting.divider],
          Item.opt (fun m => Item.bytes [m.mode.code, m.divider]) s.marks.pendingSetting,
          Item.opt Item.word s.marks.interval, Item.flag s.marks.multTooFast, Item.mon s.marks.monSelect,
          Item.half s.report.timerSetting, Item.half s.beat.limit])))
      ∧ (r.body ∉ ([[1, 1], [1, 2], [1, 3]] : List (List Byte)) →
        exec .getHub s = .next ((intakeLeft s rest).respond r .badRequest none)))
    ∧ (Asked s 5 r rest →
      (r.body = [2, 0, BitVec.ofNat 8 k.val, 1, BitVec.ofNat 8 name.code, 1, 1] →
        exec .readProfile s = .next ((intakeLeft s rest).respond r .ok (some
          [Item.half b.tables.geometry.rb, Item.half b.tables.geometry.cb, Item.half b.tables.geometry.w,
            Item.half b.tables.geometry.sr, Item.half b.tables.geometry.sc, Item.flag b.valid, Item.half b.refCount,
            Item.bytes [(s.profile k).active.code, if (s.profile k).pendingSwap then 1 else 0]])))
      ∧ (∀ first count : Byte, 1 ≤ count.toNat → count.toNat ≤ 8 → first.toNat + count.toNat ≤ 26 →
        r.body = [2, 0, BitVec.ofNat 8 k.val, 1, BitVec.ofNat 8 name.code, 1, 2, 2, 0, first, 2, 0, count] →
        exec .readProfile s = .next ((intakeLeft s rest).respond r .ok (some
          ((List.range count.toNat).map fun j => Item.mapEntry (b.tables.entry (first.toNat + j))))))
      ∧ (r.body = [2, 0, BitVec.ofNat 8 k.val, 1, BitVec.ofNat 8 name.code, 1, 3] →
        exec .readProfile s = .next ((intakeLeft s rest).respond r .ok (some
          [Item.bytes b.tables.pinOrder.toList, Item.half b.tables.rm.toNat, Item.half b.tables.cm.toNat,
            Item.half b.tables.pi.toNat, Item.half b.tables.ck.toNat])))
      ∧ ((∀ (j : ProfileIx) (other : BankName),
            r.body ≠ [2, 0, BitVec.ofNat 8 j.val, 1, BitVec.ofNat 8 other.code, 1, 1]
            ∧ r.body ≠ [2, 0, BitVec.ofNat 8 j.val, 1, BitVec.ofNat 8 other.code, 1, 3]
            ∧ ∀ first count : Byte, 1 ≤ count.toNat → count.toNat ≤ 8 → first.toNat + count.toNat ≤ 26 →
              r.body ≠ [2, 0, BitVec.ofNat 8 j.val, 1, BitVec.ofNat 8 other.code, 1, 2, 2, 0, first, 2, 0, count]) →
        exec .readProfile s = .next ((intakeLeft s rest).respond r .badRequest none)))

/-- The reads of a site change nothing but the intake and the Report Queue, in every site state: READ_SITE in its five parts
(R182), READ_REGION with the eight items of a region (R121), READ_CELLS with up to eight cells from a start index (R122), the
items coded as section 12.2 gives. Every other body is refused with BAD_REQUEST and its data absent: a site index outside 0..7,
a part code that names none of the five, a region index outside 0..15, and items that do not fill the body or differ in number
or width (R121, R122, R176, R177, R178, R182, R195). The widths of the items (log entry 14), the residual in two bytes (log
entry 17), a list of no cells as no items (log entry 31) and the ignored high byte of the start index (log entry 33) are the
model's reading. -/
def Obligations.SiteReadsAnswerWhatIsHeld : Prop :=
  ∀ (s : State) (r : CtrlRequest) (rest : List CtrlRequest) (i : SiteIx) (g : RegionIx) (x : Site) (y : Region)
    (part high start : Byte), x = s.site i → y = x.regions[g] →
    (Asked s 13 r rest → (∀ (j : SiteIx) (p : Byte), 1 ≤ p.toNat → p.toNat ≤ 5 →
        r.body ≠ [2, 0, BitVec.ofNat 8 j.val, 1, p]) →
      exec .readSite s = .next ((intakeLeft s rest).respond r .badRequest none))
    ∧ (Asked s 14 r rest → (∀ (j : SiteIx) (h : RegionIx),
        r.body ≠ [2, 0, BitVec.ofNat 8 j.val, 2, 0, BitVec.ofNat 8 h.val]) →
      exec .readRegion s = .next ((intakeLeft s rest).respond r .badRequest none))
    ∧ (Asked s 15 r rest → (∀ (j : SiteIx) (h : RegionIx) (top at_ : Byte),
        r.body ≠ [2, 0, BitVec.ofNat 8 j.val, 2, 0, BitVec.ofNat 8 h.val, 2, top, at_]) →
      exec .readCells s = .next ((intakeLeft s rest).respond r .badRequest none))
    ∧ (Asked s 13 r rest → r.body = [2, 0, BitVec.ofNat 8 i.val, 1, part] →
      (part = 1 → exec .readSite s = .next ((intakeLeft s rest).respond r .ok (some
        [Item.byte x.run.state.code, Item.bytes [x.config.mode.codes.1, x.config.mode.codes.2],
          Item.opt (fun c => Item.byte c.code) x.run.primary, Item.byte (causeBits x.run.additional),
          Item.bytes [x.head.lock.code,
            flagBits x.run.mapIncomplete x.run.failGap x.run.offsetSaturated x.run.unrepairable],
          Item.opt Item.geometry x.run.joinGeometry, Item.half x.head.launchQueue.length,
          Item.half x.head.inFlight.length])))
      ∧ (part = 2 → exec .readSite s = .next ((intakeLeft s rest).respond r .ok (some
        [Item.wide x.head.copied, Item.wide x.head.flushed, Item.wide x.head.launched, Item.wide x.mapper.answered,
          Item.wide x.mapper.lost, Item.wide x.mapper.abandoned, Item.half x.head.launchQueue.length,
          Item.half x.head.inFlight.length])))
      ∧ (part = 3 → exec .readSite s = .next ((intakeLeft s rest).respond r .ok (some
        [Item.word x.mapper.failingVectors, Item.word x.mapper.failingBits, Item.word x.mapper.malformed,
          Item.word x.mapper.stray, Item.word x.mapper.crc, Item.word x.reports.admitted, Item.word x.reports.dropped,
          Item.flag x.reports.gapPending])))
      ∧ (part = 4 → exec .readSite s = .next ((intakeLeft s rest).respond r .ok (some
        [Item.opt Item.half x.supply.latest, Item.opt Item.half x.supply.peak, Item.half x.supply.blanking,
          Item.half x.supply.overCount, Item.byte x.head.lock.code, Item.word x.head.fineLoss,
          Item.word x.head.telemetryCheck, Item.word x.head.unknownFrames])))
      ∧ (part = 5 → exec .readSite s = .next ((intakeLeft s rest).respond r .ok (some
        [Item.flag x.config.retireOnUnrepairable, [⟨1, x.config.failMode.code⟩, ⟨2, x.config.failLimit⟩],
          Item.half x.config.responseLimit, Item.byte x.config.lockEdges.code,
          Item.bytes [x.config.gain, x.config.errorMode.code], Item.half x.config.initialOffset,
          Item.half x.marks.offset, Item.signedHalf x.marks.residual]))))
    ∧ (Asked s 14 r rest → r.body = [2, 0, BitVec.ofNat 8 i.val, 2, 0, BitVec.ofNat 8 g.val] →
      exec .readRegion s = .next ((intakeLeft s rest).respond r .ok (some
        [Item.byte y.state.code, Item.half y.srRem, Item.half y.scRem, Item.halves y.rows, Item.halves y.cols,
          Item.half y.cells.length, Item.word y.covered, Item.word y.ignored])))
    ∧ (Asked s 15 r rest → r.body = [2, 0, BitVec.ofNat 8 i.val, 2, 0, BitVec.ofNat 8 g.val, 2, high, start] →
      exec .readCells s = .next ((intakeLeft s rest).respond r .ok (some
        (((y.cells.drop start.toNat).take 8).map fun c => Item.halves [c.row, c.col, c.hits]))))

/-- SET_HUB: each option present is applied with its clamp, T and BL and the MON select at once and the mark setting as the
pending one, the beat counter stopping at a change to 0 and starting from 0 at a change from 0; the four settings are answered.
A body is read as four items in the order T, BL, mark setting, MON select, an item of length 0 being an absent option (R195,
R196); one that does not read so is refused with BAD_REQUEST (R125, R169, R178, R179, R187). That a limit lowered to or below
the elapsed count keeps the counter here, its expiry being an event of its own, is the model's reading (log entry 21); so are
the widths of the items (log entry 14) and the codes that are refused (log entry 15). -/
def Obligations.SetHubAppliesItsOptionsClamped : Prop :=
  (∀ (id : Half) (kind : Byte) (timer limit : Option Half) (setting : Option (MarkMode × Byte)) (mon : Option MonSelect),
    setHubOperands ⟨id, kind, optionSent (timer.map fun v => twoBytes v.toNat) ++ optionSent (limit.map fun v => twoBytes v.toNat)
        ++ optionSent (setting.map fun m => oneByte m.1.code ++ [m.2])
        ++ optionSent (mon.map fun m => oneByte m.codes.1 ++ oneByte m.codes.2)⟩
      = some ⟨timer.map BitVec.toNat, limit.map BitVec.toNat, setting.map fun m => ⟨m.1, m.2.toNat⟩, mon⟩)
  ∧ ∀ (s : State) (r : CtrlRequest) (rest : List CtrlRequest), Asked s 3 r rest →
    (setHubOperands r = none → exec .setHub s = .next ((intakeLeft s rest).respond r .badRequest none))
    ∧ ∀ (o : SetHubOperands) (timer limit : Nat) (pending : Option MarkSetting) (mon : MonSelect),
      setHubOperands r = some o →
      timer = o.timer.elim s.report.timerSetting (fun v => min v 255) →
      limit = o.beatLimit.elim s.beat.limit (fun v => min v 15) →
      pending = o.setting.elim s.marks.pendingSetting (fun m => some { m with divider := max 2 (min m.divider 128) }) →
      mon = o.monSelect.getD s.marks.monSelect →
      exec .setHub s = .next (({ intakeLeft s rest with
          report := { s.report with timerSetting := timer },
          beat := { s.beat with
            limit := limit
            counter := if limit = s.beat.limit then s.beat.counter
              else if limit = 0 then none else if s.beat.limit = 0 then some s.clock else s.beat.counter },
          marks := { s.marks with pendingSetting := pending, monSelect := mon } } : State).respond r .ok
        (some [Item.half timer, Item.half limit, Item.setting (pending.getD s.marks.setting), Item.mon mon]))

/-- WRITE_PROFILE: the conditions of R8 in order, and an accepted write, which replaces the part in the standby bank and clears
that bank's VALID flag, and touches no other bank, flag or count; with the items of each part in a body (R195) and the ranges of
its fields (R4, R8 to R12). The widths of the items are the model's reading (log entry 14). -/
def Obligations.WriteProfileReachesTheStandbyBankAlone : Prop :=
  (∀ g : Geometry, (ProfileWrite.geometry g).inRange = true ↔
    (8 ≤ g.rb ∧ g.rb ≤ 16) ∧ (4 ≤ g.cb ∧ g.cb ≤ 10) ∧ (g.w = 4 ∨ g.w = 8 ∨ g.w = 16) ∧ g.sr ≤ 4 ∧ g.sc ≤ 4)
  ∧ (∀ (first : Nat) (es : List (Nat × Nat × Option Nat)), (ProfileWrite.map first es).inRange = true ↔
    1 ≤ es.length ∧ es.length ≤ 8 ∧ first + es.length ≤ 26
      ∧ ∀ e ∈ es, e.1 ≤ 25 ∧ (e.2.1 = 0 ∨ e.2.1 = 1) ∧ ∀ p : Nat, e.2.2 = some p → p ≤ 25)
  ∧ (∀ (order : List Nat) (rm cm pi ck : Nat),
    (ProfileWrite.topology order rm cm pi ck).inRange = true ↔ ∀ p ∈ order, p ≤ 15)
  ∧ (∀ (id profile rb cb w sr sc first rm cm pi ck : Half) (kind : Byte) (order : List Byte)
      (entries : List (Byte × Byte × Option Byte)),
    writeProfileOperands ⟨id, kind, itemSent (twoBytes profile.toNat) ++ itemSent [1]
        ++ [rb, cb, w, sr, sc].flatMap fun v => itemSent (twoBytes v.toNat)⟩
      = some (profile.toNat, .geometry ⟨rb.toNat, cb.toNat, w.toNat, sr.toNat, sc.toNat⟩)
    ∧ (3 * entries.length < 256 → (∀ e ∈ entries, e.2.2 ≠ some 255) →
      writeProfileOperands ⟨id, kind, itemSent (twoBytes profile.toNat) ++ itemSent [2] ++ itemSent (twoBytes first.toNat)
          ++ itemSent (entries.flatMap fun e => [e.1, e.2.1, e.2.2.getD 255])⟩
        = some (profile.toNat, .map first.toNat
            (entries.map fun e => (e.1.toNat, e.2.1.toNat, e.2.2.map BitVec.toNat))))
    ∧ (order.length = 16 →
      writeProfileOperands ⟨id, kind, itemSent (twoBytes profile.toNat) ++ itemSent [3] ++ itemSent order
          ++ [rm, cm, pi, ck].flatMap fun v => itemSent (twoBytes v.toNat)⟩
        = some (profile.toNat, .topology (order.map BitVec.toNat) rm.toNat cm.toNat pi.toNat ck.toNat)))
  ∧ ∀ (s : State) (r : CtrlRequest) (rest : List CtrlRequest), Asked s 4 r rest →
    (writeProfileOperands r = none → exec .writeProfile s = .next ((intakeLeft s rest).respond r .badRequest none))
    ∧ (∀ (n : Nat) (w : ProfileWrite), writeProfileOperands r = some (n, w) → 4 ≤ n ∨ w.inRange = false →
      exec .writeProfile s = .next ((intakeLeft s rest).respond r .badRequest none))
    ∧ ∀ (k : ProfileIx) (w : ProfileWrite), writeProfileOperands r = some (k.val, w) → w.inRange = true →
      ((s.profile k).pendingSwap = true →
        exec .writeProfile s = .next ((intakeLeft s rest).respond r .swapPending none))
      ∧ ((s.profile k).pendingSwap = false → ((s.profile k).bank (s.profile k).active.other).refCount ≠ 0 →
        exec .writeProfile s = .next ((intakeLeft s rest).respond r .bankBusy none))
      ∧ ((s.profile k).pendingSwap = false → ((s.profile k).bank (s.profile k).active.other).refCount = 0 →
        exec .writeProfile s = .next (((intakeLeft s rest).modProfile k fun p => p.modBank p.active.other fun b =>
          { b with valid := false, tables := w.apply b.tables }).respond r .ok none))

/-- What an accepted write replaces in the bank: the five geometry fields; the map entries from the first index on, in list
order; the pin order and the four masks at their stored widths. Everything else of the bank's contents is kept (R9, R10, R11).
-/
def Obligations.WritesReplaceThePartAlone : Prop :=
  ∀ (t : Tables) (g : Geometry) (first : Nat) (es : List (Nat × Nat × Option Nat)) (order : List Nat)
    (rm cm pi ck : Nat),
    (ProfileWrite.geometry g).apply t = { t with geometry := g }
    ∧ (first + es.length ≤ 26 →
      (ProfileWrite.map first es).apply t = { t with map := ((ProfileWrite.map first es).apply t).map }
      ∧ ∀ j : Nat, j < 26 → ((ProfileWrite.map first es).apply t).entry j =
          if first ≤ j ∧ j < first + es.length then
            (es[j - first]?).elim (t.entry j) fun e => ⟨e.1, decide (e.2.1 = 1), e.2.2⟩
          else t.entry j)
    ∧ (order.length = 16 →
      (ProfileWrite.topology order rm cm pi ck).apply t = { t with
        pinOrder := ((ProfileWrite.topology order rm cm pi ck).apply t).pinOrder,
        rm := BitVec.ofNat 16 rm, cm := BitVec.ofNat 10 cm, pi := BitVec.ofNat 16 pi, ck := BitVec.ofNat 16 ck }
      ∧ ∀ d : Nat, d < 16 → ((ProfileWrite.topology order rm cm pi ck).apply t).pinOf d = order.getD d 0)

/-- SWAP_PROFILE: the five steps of R15 in order, with the failing check and its index answered at MAP_INVALID (R16); a body
that is not one index item, or an index outside 0..3, is refused with BAD_REQUEST (R195). That the index is an item of two bytes
is the model's reading (log entry 14). -/
def Obligations.SwapProfileTakesItsConditionsInOrder : Prop :=
  ∀ (s : State) (r : CtrlRequest) (rest : List CtrlRequest), Asked s 6 r rest →
    ((∀ hi lo : Byte, r.body ≠ [2, hi, lo]) → exec .swapProfile s = .next ((intakeLeft s rest).respond r .badRequest none))
    ∧ ∀ hi lo : Byte, r.body = [2, hi, lo] →
      (4 ≤ (hi ++ lo).toNat → exec .swapProfile s = .next ((intakeLeft s rest).respond r .badRequest none))
      ∧ ∀ (k : ProfileIx) (p : Profile) (standby : Bank), (hi ++ lo).toNat = k.val → p = s.profile k →
        standby = p.bank p.active.other →
        (p.pendingSwap = true → exec .swapProfile s = .next ((intakeLeft s rest).respond r .ok none))
        ∧ (p.pendingSwap = false → standby.valid = false → ∀ (failure : MapFailure) (index : Nat),
            standby.tables.validate = some (failure, index) →
            exec .swapProfile s = .next ((intakeLeft s rest).respond r .mapInvalid
              (some [Item.bytes [failure.code, index]])))
        ∧ (p.pendingSwap = false → standby.valid = true ∨ standby.tables.validate = none →
            standby.tables.geometry ≠ (p.bank p.active).tables.geometry →
            (∃ i : SiteIx, (s.site i).config.mode = .profile k ∧ (s.site i).run.state.inTest = true) →
            exec .swapProfile s = .next ((intakeLeft s rest).respond r .geometryLocked none))
        ∧ (p.pendingSwap = false → standby.valid = true ∨ standby.tables.validate = none →
            standby.tables.geometry = (p.bank p.active).tables.geometry
              ∨ (∀ i : SiteIx, (s.site i).config.mode = .profile k → (s.site i).run.state.inTest = false) →
            exec .swapProfile s = .next (((intakeLeft s rest).modProfile k fun q =>
              { q.modBank q.active.other fun b => { b with valid := true } with pendingSwap := true }).respond r .ok none))

/-- SET_SITE with a mode, with or without options: refused where the body or the site index names nothing, or where the mode
differs and the site is in test; from DISABLED or RELEASED a profile clears the site and starts its training from a link driven
down; from TRAINING, IDLE or RETIRED the mode DISABLED takes the link down, and a profile is set and moves nothing; a mode equal
to the current one in test changes nothing; the options are taken after the mode's effect, and the answer gives the site as it
then stands (R63, R64, R65, R66, R180). A SET_SITE that sets `retire_on_unrepairable` from clear and raises cause UNREPAIRABLE
has a statement of its own; that the option set again raises nothing is the model's reading (log entry 19), and so are the
widths and codes of the items (log entries 14 and 15) and that a link takes the rate class of its pair when it starts to train
from DOWN (log entry 24). How a frame being sent ends, and the latest frame sent, are the model's (log entries 10 and 23). -/
def Obligations.SetSiteModeFollowsTheStateTable : Prop :=
  ∀ (s : State) (r : CtrlRequest) (rest : List CtrlRequest), Asked s 7 r rest →
    (setSiteOperands r = none → exec .setSite s = .next ((intakeLeft s rest).respond r .badRequest none))
    ∧ (∀ (n : Nat) (mode : Option SiteMode) (o : SiteOptions), setSiteOperands r = some (n, mode, o) → 8 ≤ n →
      exec .setSite s = .next ((intakeLeft s rest).respond r .badRequest none))
    ∧ (∀ (i : SiteIx) (m : SiteMode) (o : SiteOptions), setSiteOperands r = some (i.val, some m, o) →
      m ≠ (s.site i).config.mode → (s.site i).run.state.inTest = true →
      exec .setSite s = .next ((intakeLeft s rest).respond r .badState none))
    ∧ ∀ (i : SiteIx) (m : SiteMode) (o : SiteOptions), setSiteOperands r = some (i.val, some m, o) →
      m = (s.site i).config.mode ∨ (s.site i).run.state.inTest = false →
      (o.retire ≠ some true ∨ (s.site i).run.unrepairable = false
        ∨ ((s.site i).run.state ≠ .active ∧ (s.site i).run.state ≠ .draining)
        ∨ (s.site i).config.retireOnUnrepairable = true) →
      ∃ x : Site, exec .setSite s = .next (((intakeLeft s rest).modSite i fun _ => withOptions o x).respond r .ok
          (some (withOptions o x).configItems))
        ∧ ((s.site i).run.state.inTest = true → x = s.site i)
        ∧ ((s.site i).run.state = .disabled → m = .disabled → x = s.site i)
        ∧ ((s.site i).run.state = .training ∨ (s.site i).run.state = .idle ∨ (s.site i).run.state = .retired →
            m ≠ .disabled → x = { s.site i with config := { (s.site i).config with mode := m } })
        ∧ ((s.site i).run.state = .training ∨ (s.site i).run.state = .idle ∨ (s.site i).run.state = .retired
              ∨ (s.site i).run.state = .released →
            m = .disabled → x = { s.site i with
              config := { (s.site i).config with mode := .disabled },
              run := { (s.site i).run with state := .disabled, trainingLimit := none },
              head := { (s.site i).head with
                drive := .drivenDown, lock := .down, trainRun := 0, controlList := [], expander := .idle,
                sent := x.head.sent },
              supply := { (s.site i).supply with latest := none },
              reports := { (s.site i).reports with summaryPending := true } })
        ∧ ((s.site i).run.state = .disabled ∨ (s.site i).run.state = .released →
            m ≠ .disabled → x = {
              config := { (s.site i).config with mode := m },
              run := { state := .training, primary := none, additional := [], mapIncomplete := false,
                       unrepairable := false, failGap := false, offsetSaturated := false, joinGeometry := none,
                       trainingLimit := some (s.clock + 5000000) },
              head := { (s.site i).head with
                drive := .enabled, rate := (s.pairOf i).rate, lock := .down, trainRun := 0, controlList := [],
                expander := .idle, sent := x.head.sent, copied := 0, flushed := 0, launched := 0, fineLoss := 0,
                telemetryCheck := 0, unknownFrames := 0 },
              mapper := ⟨0, 0, 0, 0, 0, 0, 0, 0⟩,
              regions := Vector.replicate 16 Region.reset,
              marks := { (s.site i).marks with offset := (s.site i).config.initialOffset, residual := 0 },
              supply := ⟨none, some 0, 0, 0⟩,
              reports := ⟨0, 0, false, true⟩ })

/-- SET_SITE with options and no mode, taken in every site state: each option present takes its applied value, and an offset
sets O and the configured initial offset and makes A 0; setting `retire_on_unrepairable` from clear on a site that is not ACTIVE
or DRAINING, or whose verdict is not UNREPAIRABLE, raises nothing, and neither does setting it while it is set already, whatever
the state and the verdict: the model's reading of R78 (log entry 19). A SET_SITE body is read as nine items, site, mode and the
seven options in the order of R180, an item of length 0 being absent; a fail-record option is a mode alone, a mode and a limit,
or, with mode byte 00H, a limit alone (R53, R78, R135, R145, R162, R178, R180, R195, R196; the widths of the items: log entry
14). That a fail-record item of the single byte 00H is read, and carries neither mode nor limit, is the model's reading too (log
entry 15). -/
def Obligations.SetSiteOptionsTakeTheirAppliedValues : Prop :=
  (∀ (id site : Half) (kind : Byte) (mode : Option SiteMode) (retire : Option Bool)
      (fail : Option (Option FailMode × Option Half)) (response offset : Option Half) (edges : Option LockEdges)
      (gain : Option Byte) (errorMode : Option ErrorMode),
    setSiteOperands ⟨id, kind, itemSent (twoBytes site.toNat)
        ++ optionSent (mode.map fun m => oneByte m.codes.1 ++ oneByte m.codes.2)
        ++ optionSent (retire.map fun b => oneByte (if b then 1 else 0))
        ++ optionSent (fail.map fun f => oneByte (f.1.elim 0 FailMode.code) ++ f.2.elim [] fun v => twoBytes v.toNat)
        ++ optionSent (response.map fun v => twoBytes v.toNat) ++ optionSent (edges.map fun e => oneByte e.code)
        ++ optionSent (gain.map fun v => [v]) ++ optionSent (errorMode.map fun m => oneByte m.code)
        ++ optionSent (offset.map fun v => twoBytes v.toNat)⟩
      = some (site.toNat, mode, ⟨retire, fail.map fun f => ⟨f.1, f.2.map BitVec.toNat⟩, response.map BitVec.toNat, edges,
          gain.map BitVec.toNat, errorMode, offset.map BitVec.toNat⟩))
  ∧ ∀ (s : State) (r : CtrlRequest) (rest : List CtrlRequest) (i : SiteIx) (o : SiteOptions) (x : Site),
    Asked s 7 r rest → setSiteOperands r = some (i.val, none, o) →
    (o.retire ≠ some true ∨ (s.site i).run.unrepairable = false
      ∨ ((s.site i).run.state ≠ .active ∧ (s.site i).run.state ≠ .draining)
      ∨ (s.site i).config.retireOnUnrepairable = true) →
    x = { s.site i with
      config := { (s.site i).config with
        retireOnUnrepairable := o.retire.getD (s.site i).config.retireOnUnrepairable
        failMode := (o.fail.bind FailOption.mode).getD (s.site i).config.failMode
        failLimit := (o.fail.bind FailOption.limit).elim (s.site i).config.failLimit fun v => max 1 (min v 65535)
        responseLimit := o.response.elim (s.site i).config.responseLimit fun v => max 1 (min v 255)
        lockEdges := o.edges.getD (s.site i).config.lockEdges
        gain := o.gain.elim (s.site i).config.gain fun v => min v 4
        errorMode := o.errorMode.getD (s.site i).config.errorMode
        initialOffset := o.offset.elim (s.site i).config.initialOffset fun v => min v 4095 },
      marks := o.offset.elim (s.site i).marks fun v => { (s.site i).marks with offset := min v 4095, residual := 0 } } →
    exec .setSite s = .next (((intakeLeft s rest).modSite i fun _ => x).respond r .ok (some
      [Item.byte x.run.state.code, Item.bytes [x.config.mode.codes.1, x.config.mode.codes.2],
        Item.flag x.config.retireOnUnrepairable, [⟨1, x.config.failMode.code⟩, ⟨2, x.config.failLimit⟩],
        Item.half x.config.responseLimit, Item.byte x.config.lockEdges.code,
        Item.bytes [x.config.gain, x.config.errorMode.code], Item.half x.config.initialOffset]))

/-- SET_PAIR: the three steps of R148, with the applied values of R147 and all four settings answered. A body is read as five
items, the pair and the four settings, an item of length 0 being an absent setting (R195; the widths of the items: log entry
14). -/
def Obligations.SetPairTakesItsConditionsInOrder : Prop :=
  (∀ (id pair : Half) (kind : Byte) (trip deglitch blanking : Option Half) (rate : Option LinkRate),
    setPairOperands ⟨id, kind, itemSent (twoBytes pair.toNat) ++ optionSent (trip.map fun v => twoBytes v.toNat)
        ++ optionSent (deglitch.map fun v => twoBytes v.toNat) ++ optionSent (blanking.map fun v => twoBytes v.toNat)
        ++ optionSent (rate.map fun c => oneByte c.code)⟩
      = some (pair.toNat, ⟨trip.map BitVec.toNat, deglitch.map BitVec.toNat, blanking.map BitVec.toNat, rate⟩))
  ∧ ∀ (s : State) (r : CtrlRequest) (rest : List CtrlRequest), Asked s 8 r rest →
    (setPairOperands r = none → exec .setPair s = .next ((intakeLeft s rest).respond r .badRequest none))
    ∧ (∀ (n : Nat) (o : PairOptions), setPairOperands r = some (n, o) → 4 ≤ n →
      exec .setPair s = .next ((intakeLeft s rest).respond r .badRequest none))
    ∧ ∀ (k : PairIx) (o : PairOptions) (p : PairSettings), setPairOperands r = some (k.val, o) →
      ((∃ c : LinkRate, o.rate = some c ∧ c ≠ s.pairs[k].rate) →
        (∃ i : SiteIx, i.pair = k ∧ (s.site i).run.state ≠ .disabled ∧ (s.site i).run.state ≠ .released) →
        exec .setPair s = .next ((intakeLeft s rest).respond r .badState none))
      ∧ ((∀ c : LinkRate, o.rate = some c → c = s.pairs[k].rate)
          ∨ (∀ i : SiteIx, i.pair = k → (s.site i).run.state = .disabled ∨ (s.site i).run.state = .released) →
        p = { tripLevel := o.tripLevel.elim s.pairs[k].tripLevel fun v => min v 4095
              deglitch := o.deglitch.elim s.pairs[k].deglitch fun v => max 1 (min v 16)
              blanking := o.blanking.elim s.pairs[k].blanking fun v => min v 255
              rate := o.rate.getD s.pairs[k].rate } →
        exec .setPair s = .next (({ intakeLeft s rest with pairs := s.pairs.set k p } : State).respond r .ok
          (some [Item.half p.tripLevel, Item.half p.deglitch, Item.half p.blanking, Item.byte p.rate.code])))

/-- JOIN_SITE: the conditions of R68 in order, and what entry to ARMED changes together; a body that is not one index item is
refused with BAD_REQUEST (R195). That the index is an item of two bytes is the model's reading (log entry 14), and the answer
NO_PROFILE for a site in IDLE with mode DISABLED, which no run reaches, its choice (log entry 25). -/
def Obligations.JoinSiteTakesItsConditionsInOrder : Prop :=
  ∀ (s : State) (r : CtrlRequest) (rest : List CtrlRequest), Asked s 9 r rest →
    ((∀ hi lo : Byte, r.body ≠ [2, hi, lo]) → exec .joinSite s = .next ((intakeLeft s rest).respond r .badRequest none))
    ∧ ∀ hi lo : Byte, r.body = [2, hi, lo] →
      (8 ≤ (hi ++ lo).toNat → exec .joinSite s = .next ((intakeLeft s rest).respond r .badRequest none))
      ∧ ∀ i : SiteIx, (hi ++ lo).toNat = i.val →
        ((s.site i).run.state ≠ .idle → exec .joinSite s = .next ((intakeLeft s rest).respond r .badState none))
        ∧ ((s.site i).run.state = .idle → (s.site i).config.mode = .disabled →
          exec .joinSite s = .next ((intakeLeft s rest).respond r .noProfile none))
        ∧ ∀ (k : ProfileIx) (active standby : Bank), (s.site i).run.state = .idle → (s.site i).config.mode = .profile k →
          active = (s.profile k).bank (s.profile k).active → standby = (s.profile k).bank (s.profile k).active.other →
          (active.valid = false → exec .joinSite s = .next ((intakeLeft s rest).respond r .noProfile none))
          ∧ (active.valid = true → (s.profile k).pendingSwap = true →
              standby.tables.geometry ≠ active.tables.geometry →
              exec .joinSite s = .next ((intakeLeft s rest).respond r .geometryLocked none))
          ∧ (active.valid = true →
              (s.profile k).pendingSwap = false ∨ standby.tables.geometry = active.tables.geometry →
              exec .joinSite s = .next (((intakeLeft s rest).modSite i fun x => { x with
                run := { x.run with state := .armed, joinGeometry := some active.tables.geometry }
                regions := Vector.ofFn fun g => { Region.reset with
                  srRem := active.tables.geometry.sr, scRem := active.tables.geometry.sc,
                  summaryPending := x.regions[g].summaryPending }
                supply := { x.supply with peak := some 0, overCount := 0, blanking := (s.pairOf i).blanking }
                head := { x.head with controlList := x.head.controlList ++ [.powerOn] }
                reports := { x.reports with summaryPending := true } }).respond r .ok none))

/-- RETIRE_SITE: cause REQUESTED against a site in ARMED or PRIMED, which enters RETIRED, or in ACTIVE, which flushes its launch
queue and enters DRAINING, or RETIRED when nothing is in flight; the answer gives the state entered; any other state is refused
with BAD_STATE (R73, R74, R75, R183), and a body that is not one index item, or an index outside 0..7, with BAD_REQUEST (R195).
A site that enters RETIRED raises a CUT, which removes the oldest POWER_ON that waits in the control list and is not added, and
joins the tail of a list without one (R69). That the index is an item of two bytes is the model's reading (log entry 14), and so
is the additional-cause set as a list in the order of the codes (log entry 27). -/
def Obligations.RetireSiteLeavesTest : Prop :=
  ∀ (s : State) (r : CtrlRequest) (rest : List CtrlRequest), Asked s 10 r rest →
    ((∀ hi lo : Byte, r.body ≠ [2, hi, lo]) → exec .retireSite s = .next ((intakeLeft s rest).respond r .badRequest none))
    ∧ ∀ hi lo : Byte, r.body = [2, hi, lo] →
      (8 ≤ (hi ++ lo).toNat → exec .retireSite s = .next ((intakeLeft s rest).respond r .badRequest none))
      ∧ ∀ (i : SiteIx) (x : Site), (hi ++ lo).toNat = i.val →
        x = { s.site i with run := withCause .requested (s.site i).run } →
        ((s.site i).run.state ≠ .armed → (s.site i).run.state ≠ .primed → (s.site i).run.state ≠ .active →
          exec .retireSite s = .next ((intakeLeft s rest).respond r .badState none))
        ∧ ((s.site i).run.state = .armed ∨ (s.site i).run.state = .primed →
          exec .retireSite s = .next ((((intakeLeft s rest).modSite i fun _ => retiredSite x).readFlow).respond r .ok
            (some [Item.byte SiteState.retired.code])))
        ∧ (∀ y : Site, (s.site i).run.state = .active →
          y = { x with
            run := { x.run with state := .draining },
            head := { x.head with
              launchQueue := [], flushed := (x.head.flushed + x.head.launchQueue.length) % 2 ^ 48 },
            reports := { x.reports with summaryPending := true } } →
          exec .retireSite s = .next ((((((intakeLeft s rest).dropRefs (x.head.launchQueue.map LaunchEntry.bound)).modSite i
              fun _ => if x.head.inFlight = [] then retiredSite y else y).readFlow)).respond r .ok
            (some [Item.byte (if x.head.inFlight = [] then SiteState.retired else SiteState.draining).code])))
        ∧ ((s.site i).run.state = .armed ∨ (s.site i).run.state = .primed
            ∨ ((s.site i).run.state = .active ∧ (s.site i).head.inFlight = []) →
          ∃ t : State, exec .retireSite s = .next t
            ∧ (∀ before behind : List ControlKind, (s.site i).head.controlList = before ++ .powerOn :: behind →
              .powerOn ∉ before → (t.site i).head.controlList = before ++ behind)
            ∧ (.powerOn ∉ (s.site i).head.controlList →
              (t.site i).head.controlList = (s.site i).head.controlList ++ [.cut]))

/-- CLEAR_SITE clears a RETIRED site into IDLE with FINE lock, into TRAINING with a new 20 ms limit otherwise, and answers the
state entered; RELEASE_SITE moves a RETIRED site to RELEASED, with FINE lock raising a RELEASE frame behind any waiting CUT,
without it taking the link down at once; in any other state each is refused with BAD_STATE, and a body that is not one index
item, or an index outside 0..7, with BAD_REQUEST (R65, R80, R81, R183, R195). That the index is an item of two bytes is the
model's reading (log entry 14), and so is that a site cleared into TRAINING keeps the lock state that its link has reached, DOWN
or COARSE, as R80 leaves the head link, and does not fall to the DOWN of R66 (log entry 20). How a frame being sent ends, and
the latest frame sent, are the model's (log entries 10 and 23). -/
def Obligations.RetiredSitesAreClearedOrReleased : Prop :=
  ∀ (s : State) (r : CtrlRequest) (rest : List CtrlRequest) (i : SiteIx) (c : Instr),
    (c = .clearSite ∧ Asked s 11 r rest) ∨ (c = .releaseSite ∧ Asked s 12 r rest) →
    ((∀ hi lo : Byte, r.body ≠ [2, hi, lo]) → exec c s = .next ((intakeLeft s rest).respond r .badRequest none))
    ∧ ∀ hi lo : Byte, r.body = [2, hi, lo] →
      (8 ≤ (hi ++ lo).toNat → exec c s = .next ((intakeLeft s rest).respond r .badRequest none))
      ∧ ((hi ++ lo).toNat = i.val → (s.site i).run.state ≠ .retired →
        exec c s = .next ((intakeLeft s rest).respond r .badState none))
      ∧ ((hi ++ lo).toNat = i.val → (s.site i).run.state = .retired → c = .clearSite →
        exec c s = .next (((intakeLeft s rest).modSite i fun x => { x with
          run := { RunRecord.reset with
            state := if x.head.lock = .fine then .idle else .training
            trainingLimit := if x.head.lock = .fine then none else some (s.clock + 5000000) }
          head := { x.head with
            copied := 0, flushed := 0, launched := 0, fineLoss := 0, telemetryCheck := 0, unknownFrames := 0 }
          mapper := FailCounters.reset
          regions := Vector.replicate 16 Region.reset
          marks := { x.marks with offset := x.config.initialOffset, residual := 0 }
          supply := { x.supply with peak := some 0, blanking := 0, overCount := 0 }
          reports := ⟨0, 0, false, true⟩ }).respond r .ok
            (some [Item.byte (if (s.site i).head.lock = .fine then SiteState.idle else SiteState.training).code])))
      ∧ ((hi ++ lo).toNat = i.val → (s.site i).run.state = .retired → c = .releaseSite →
        ∃ x : Site, exec c s = .next (((intakeLeft s rest).modSite i fun _ => x).respond r .ok none)
          ∧ ((s.site i).head.lock = .fine → x = { s.site i with
              run := { (s.site i).run with state := .released },
              head := { (s.site i).head with controlList := (s.site i).head.controlList ++ [.release] },
              reports := { (s.site i).reports with summaryPending := true } })
          ∧ ((s.site i).head.lock ≠ .fine → x = { s.site i with
              run := { (s.site i).run with state := .released },
              head := { (s.site i).head with
                drive := .drivenDown, lock := .down, trainRun := 0, controlList := [], expander := .idle,
                sent := x.head.sent },
              supply := { (s.site i).supply with latest := none },
              reports := { (s.site i).reports with summaryPending := true } }))

/-- RETIRE_ON_UNREPAIRABLE set by SET_SITE, from clear, on a site whose verdict is UNREPAIRABLE, whatever other options and with
no mode or the current one: cause UNREPAIRABLE is raised; an ACTIVE site flushes its launch queue and enters DRAINING, or
RETIRED when nothing is in flight; a DRAINING site only records the cause; then the other options are taken (R75, R76, R78,
R180). That a DRAINING site whose primary cause is UNREPAIRABLE already keeps its record is the model's choice between R72 and
R78 (log entry 35); so are the additional-cause set as a list in the order of the codes (log entry 27) and the form of the body
(log entries 14 and 15). -/
def Obligations.SettingRetireOnUnrepairableRetires : Prop :=
  ∀ (s : State) (r : CtrlRequest) (rest : List CtrlRequest) (i : SiteIx) (mode : Option SiteMode) (o : SiteOptions)
    (x y w : Site), Asked s 7 r rest →
    setSiteOperands r = some (i.val, mode, o) → mode = none ∨ mode = some (s.site i).config.mode → o.retire = some true →
    (s.site i).run.unrepairable = true → (s.site i).config.retireOnUnrepairable = false →
    x = { s.site i with
      config := { (s.site i).config with retireOnUnrepairable := true },
      run := withCause .unrepairable (s.site i).run } →
    ((s.site i).run.state = .active →
      y = { x with
        run := { x.run with state := .draining },
        head := { x.head with
          launchQueue := [], flushed := (x.head.flushed + x.head.launchQueue.length) % 2 ^ 48 },
        reports := { x.reports with summaryPending := true } } →
      w = (if x.head.inFlight = [] then retiredSite y else y) →
      exec .setSite s = .next (((((intakeLeft s rest).dropRefs (x.head.launchQueue.map LaunchEntry.bound)).modSite i
        fun _ => withOptions o w).readFlow).respond r .ok (some (withOptions o w).configItems)))
    ∧ ((s.site i).run.state = .draining → (s.site i).run.primary ≠ some .unrepairable →
      w = { x with reports := { x.reports with
        summaryPending := x.reports.summaryPending || decide (x.run ≠ (s.site i).run) } } →
      exec .setSite s = .next ((((intakeLeft s rest).modSite i fun _ => withOptions o w).readFlow).respond r .ok
        (some (withOptions o w).configItems)))
    ∧ ((s.site i).run.state = .draining → (s.site i).run.primary = some .unrepairable →
      exec .setSite s = .next (((intakeLeft s rest).modSite i fun _ => withOptions o (s.site i)).respond r .ok
        (some (withOptions o (s.site i)).configItems)))

/-! ### Reporting -/

/-- SUMMARY_RECORD makes the record of the first set flag in scan order (the hub, then each site followed by its regions),
clears that flag and admits the record at the tail; with no flag set, or with 252 records or more in the Report Queue, it makes
none (R163, R164, R165), and the event changes nothing (log entry 2). -/
def Obligations.SummaryRecordsFollowTheScanOrder : Prop :=
  ∀ s : State, Released s →
    (252 ≤ s.report.queue.length → exec .summaryRecord s = .next s)
    ∧ (s.report.hubPending = false →
      (∀ i : SiteIx, (s.site i).reports.summaryPending = false
        ∧ ∀ g : RegionIx, (s.site i).regions[g].summaryPending = false) →
      exec .summaryRecord s = .next s)
    ∧ (s.report.queue.length < 252 → s.report.hubPending = true →
      exec .summaryRecord s = .next (({ s with report := { s.report with hubPending := false } } : State).enqueue
        (.hub { hub := s.hub, flow := s.flow, multTooFast := s.marks.multTooFast, outcome := s.outcome })))
    ∧ ∀ i : SiteIx, s.report.queue.length < 252 → s.report.hubPending = false →
      (∀ j : SiteIx, j < i → (s.site j).reports.summaryPending = false
        ∧ ∀ g : RegionIx, (s.site j).regions[g].summaryPending = false) →
      ((s.site i).reports.summaryPending = true →
        exec .summaryRecord s = .next ((s.modSite i fun x =>
            { x with reports := { x.reports with summaryPending := false } }).enqueue
          (.site {
            site := i, state := (s.site i).run.state, primary := (s.site i).run.primary,
            additional := (s.site i).run.additional, lock := (s.site i).head.lock,
            mapIncomplete := (s.site i).run.mapIncomplete, failGap := (s.site i).run.failGap,
            offsetSaturated := (s.site i).run.offsetSaturated, unrepairable := (s.site i).run.unrepairable,
            failingVectors := (s.site i).mapper.failingVectors })))
      ∧ ∀ (g : RegionIx) (x : Region), x = (s.site i).regions[g] → (s.site i).reports.summaryPending = false →
        (∀ h : RegionIx, h < g → (s.site i).regions[h].summaryPending = false) → x.summaryPending = true →
        exec .summaryRecord s = .next ((s.modSite i fun y =>
            { y with regions := y.regions.set g { x with summaryPending := false } }).enqueue
          (.region {
            site := i, region := g, state := x.state, srRem := x.srRem, scRem := x.scRem, rows := x.rows,
            cols := x.cols, cells := x.cells.length }))

/-- REPORT_FRAME_BUILD: when the timer condition of the setting T or an urgent condition holds, the trunk link is UP and sending
nothing, and no flow frame and no interrupted report frame waits, up to 16 of the oldest records leave the queue in one REPORT
frame, the RESPONSE records among them end their requests' outstanding time, and the flow state is read; otherwise nothing is
built (R57, R166, R167, R174), and the event changes nothing (log entry 2). -/
def Obligations.ReportFramesTakeTheOldestRecords : Prop :=
  ∀ (s : State) (condition : Bool), Released s →
    condition = (decide (192 ≤ s.report.queue.length)
      || (s.report.queue.any fun q => match q.record with
          | .response _ | .hub _ | .site _ => true
          | _ => false)
      || (if s.report.timerSetting = 0 then decide (16 ≤ s.report.queue.length)
          else if s.report.timerSetting = 1 then decide (1 ≤ s.report.queue.length)
          else s.report.queue.head?.any fun q => decide (q.joined + s.report.timerSetting * 2500 ≤ s.clock))) →
    (condition = false ∨ s.trunk.link ≠ .up ∨ s.trunk.upstream ≠ .free ∨ s.trunk.pendingFlow ≠ none
        ∨ s.trunk.interrupted ≠ none ∨ s.report.queue = [] →
      exec .reportFrameBuild s = .next s)
    ∧ (condition = true → s.trunk.link = .up → s.trunk.upstream = .free → s.trunk.pendingFlow = none →
      s.trunk.interrupted = none → s.report.queue ≠ [] →
      exec .reportFrameBuild s = .next (({ s with
        report := { s.report with queue := s.report.queue.drop 16 },
        agent := { s.agent with
          outstanding := s.agent.outstanding
            - ((s.report.queue.take 16).filter fun q => q.record.isResponse).length },
        trunk := { s.trunk with
          upstream := .report ((s.report.queue.take 16).map QueuedRecord.record) false } } : State).readFlow))

/-- The upstream link: a report frame that is sent leaves the link free, and the interrupted frame sent again is released only
then; the interrupted frame is sent again, whole, once the link is UP and free and no flow frame waits; a pending flow frame
goes when the link is UP and free, and its end leaves the link free (R59, R168). COALESCING_TIMER_EXPIRY stands at T × 10 µs
after the oldest record joined, where the timer condition holds (R166). The latest frame sent and the clock at the event's time
are the model's own (log entries 2 and 10), and so is that the interrupted frame is held until its resending ends (log entry
22). -/
def Obligations.UpstreamFramesAreSentInTheirOrder : Prop :=
  ∀ s : State, Released s →
    (∀ (records : List Record) (again : Bool), s.trunk.upstream = .report records again →
      exec .reportFrameSent s = .next { s with trunk := { s.trunk with
        upstream := .free, sent := some (.frame (.report records) .good),
        interrupted := if again then none else s.trunk.interrupted } })
    ∧ (∀ records : List Record, s.trunk.interrupted = some records →
      (s.trunk.link = .up → s.trunk.upstream = .free → s.trunk.pendingFlow = none →
        exec .interruptedReportResend s = .next { s with trunk := { s.trunk with upstream := .report records true } })
      ∧ (s.trunk.link ≠ .up ∨ s.trunk.upstream ≠ .free ∨ s.trunk.pendingFlow ≠ none →
        exec .interruptedReportResend s = .next s))
    ∧ (∀ frame : FlowFrame, s.trunk.pendingFlow = some frame →
      (s.trunk.link = .up → s.trunk.upstream = .free →
        exec .flowFrameSend s = .next { s with trunk := { s.trunk with upstream := .flow frame, pendingFlow := none } })
      ∧ (s.trunk.link ≠ .up ∨ s.trunk.upstream ≠ .free → exec .flowFrameSend s = .next s))
    ∧ (∀ frame : FlowFrame, s.trunk.upstream = .flow frame →
      exec .flowFrameEnd s = .next { s with trunk := { s.trunk with
        upstream := .free, sent := some (.frame (.flow frame) .good) } })
    ∧ (∀ (q : QueuedRecord) (qs : List QueuedRecord), s.report.queue = q :: qs → 2 ≤ s.report.timerSetting →
      ∃ t : State, exec .coalescingTimerExpiry s = .next t
        ∧ t = { s with clock := max s.clock (q.joined + s.report.timerSetting * 2500) } ∧ t.timerCondition = true)

/-! ### Head links -/

/-- LAUNCH: with the five launch conditions of R51 and no control frame waiting, the oldest launch-queue entry leaves the queue
for the tail of the in-flight list with its deadline, the launched count rises, the expander starts the frame, and the flow
state is read; with any condition failing nothing is launched (R51, R52, R53, R57, R69), and the event changes nothing (log
entry 2). One reading of the flow state, in any state: FLOWING with 192 records or more in the Report Queue, or 24 entries or
more in an ACTIVE site's launch queue, becomes HELD; HELD with fewer than 128 records and 8 entries or fewer in every ACTIVE
site's queue becomes FLOWING; each change makes its HOLD or RELEASE frame the pending flow frame in place of any other and sets
the hub's summary-pending flag; else nothing changes (R57, R58, R59). -/
def Obligations.LaunchTakesTheOldestEntry : Prop :=
  (∀ (s : State) (i : SiteIx) (e : LaunchEntry) (rest : List LaunchEntry) (record : InFlight), Released s →
    (s.site i).head.launchQueue = e :: rest →
    record = ⟨e.desc, e.bound, s.clock + (s.site i).config.responseLimit * 25000⟩ →
    ((s.site i).run.state = .active → (s.site i).head.lock = .fine → s.hub ≠ .holdover →
      (s.site i).head.inFlight.length < 16 → (s.site i).head.expander = .idle → (s.site i).head.controlList = [] →
      exec (.launch i) s = .next ((s.modSite i fun x => { x with head := { x.head with
        launchQueue := rest, inFlight := x.head.inFlight ++ [record], launched := (x.head.launched + 1) % 2 ^ 48,
        expander := .sending record s.clock } }).readFlow))
    ∧ ((s.site i).run.state ≠ .active ∨ (s.site i).head.lock ≠ .fine ∨ s.hub = .holdover
        ∨ 16 ≤ (s.site i).head.inFlight.length ∨ (s.site i).head.expander ≠ .idle
        ∨ (s.site i).head.controlList ≠ [] →
      exec (.launch i) s = .next s))
  ∧ ∀ s : State,
    (s.flow = .flowing →
      192 ≤ s.report.queue.length
        ∨ (∃ i : SiteIx, (s.site i).run.state = .active ∧ 24 ≤ (s.site i).head.launchQueue.length) →
      s.readFlow = { s with
        flow := .held, trunk := { s.trunk with pendingFlow := some .hold }, report := { s.report with hubPending := true } })
    ∧ (s.flow = .held → s.report.queue.length < 128 →
      (∀ i : SiteIx, (s.site i).run.state = .active → (s.site i).head.launchQueue.length ≤ 8) →
      s.readFlow = { s with
        flow := .flowing, trunk := { s.trunk with pendingFlow := some .release },
        report := { s.report with hubPending := true } })
    ∧ (s.flow = .flowing → s.report.queue.length < 192 →
      (∀ i : SiteIx, (s.site i).run.state = .active → (s.site i).head.launchQueue.length < 24) → s.readFlow = s)
    ∧ (s.flow = .held →
      128 ≤ s.report.queue.length
        ∨ (∃ i : SiteIx, (s.site i).run.state = .active ∧ 8 < (s.site i).head.launchQueue.length) →
      s.readFlow = s)

/-- Frames toward the head: a VECTOR_BLOCK frame ends one header time and n vector times after it began, with all n vectors of
the burst through the bound bank and its check as computed; the oldest waiting control frame goes when the lock is FINE and the
expander idle, and ends after one control-frame time; the end of a RELEASE frame takes the link of a RELEASED site down (R35,
R36, R55, R69, R81). The latest frame sent and the clock at the event's time are the model's own (log entries 2 and 10). The
times are those of the rate class that the link trained at, which R148 keeps equal to the pair's but for a RELEASED site whose
RELEASE frame is still to go: the model's reading of R55 and R142 (log entry 24). -/
def Obligations.FramesTowardTheHeadEndInTheirTime : Prop :=
  ∀ (s : State) (i : SiteIx) (unit began : Nat), Released s →
    unit = (if (s.site i).head.rate = .full then 250 else 500) →
    (∀ record : InFlight, (s.site i).head.expander = .sending record began →
      exec (.vectorBlockEnd i) s = .next (({ s with
          clock := max s.clock (began + (record.desc.n + 1) * unit) } : State).modSite i fun x =>
        { x with head := { x.head with
          expander := .idle,
          sent := some ⟨.vectorBlock record.desc.tag record.desc.n
            ((List.range record.desc.n).map (vectorAt (s.bank record.bound).tables record.desc)), .good⟩ } }))
    ∧ (∀ (kind : ControlKind) (rest : List ControlKind), (s.site i).head.controlList = kind :: rest →
      ((s.site i).head.lock = .fine → (s.site i).head.expander = .idle →
        exec (.controlFrameSend i) s = .next (s.modSite i fun x =>
          { x with head := { x.head with controlList := rest, expander := .control kind s.clock } }))
      ∧ ((s.site i).head.lock ≠ .fine ∨ (s.site i).head.expander ≠ .idle →
        exec (.controlFrameSend i) s = .next s))
    ∧ (∀ kind : ControlKind, (s.site i).head.expander = .control kind began →
      (kind ≠ .release ∨ (s.site i).run.state ≠ .released →
        exec (.controlFrameEnd i) s = .next (({ s with clock := max s.clock (began + unit) } : State).modSite i fun x =>
          { x with head := { x.head with expander := .idle, sent := some ⟨.control kind i, .good⟩ } }))
      ∧ (kind = .release → (s.site i).run.state = .released →
        exec (.controlFrameEnd i) s = .next (({ s with clock := max s.clock (began + unit) } : State).modSite i fun x =>
          { x with
            head := { x.head with
              expander := .idle, sent := some ⟨.control kind i, .good⟩, drive := .drivenDown, lock := .down,
              trainRun := 0, controlList := [] },
            supply := { x.supply with latest := none } })))

/-- Head link training to FINE lock. On an enabled link: a recognised training pattern takes it from DOWN to COARSE; in COARSE
four TRAIN frames in a row that pass their check and echo the site number bring FINE, and any other frame ends the run; a gain
of FINE takes a TRAINING site to IDLE, stops its training limit, and flags the site when the edges or the state change ask for
it; a loss of symbol lock in COARSE returns the link to DOWN; in DOWN no frame is taken; in FINE a TRAIN frame that fails its
check is discarded, and uncounted. A driven-down link receives nothing: no TRAIN frame, no pattern and no symbol-lock event
changes anything (R66, R141, R142, R143, R144, R145, R146). The model's own: the gain is taken in the same step (log entry 32),
the unused high bits of the site number are ignored (R194; log entry 36), and an event that the link's state rules out changes
nothing (log entry 2). -/
def Obligations.FourTrainFramesBringFineLock : Prop :=
  ∀ (s : State) (i : SiteIx) (f : Option TrainFrame), Released s →
    ((s.site i).head.drive = .drivenDown →
      exec (.patternRecognised i) s = .next s ∧ exec (.headSymbolLockLoss i) s = .next s
      ∧ exec (.trainFrameReceived i f) s = .next s)
    ∧ ((s.site i).head.drive = .enabled →
      ((s.site i).head.lock = .fine →
        exec (.trainFrameReceived i none) s = .next s ∧ exec (.patternRecognised i) s = .next s)
      ∧ ((s.site i).head.lock = .down →
        exec (.patternRecognised i) s = .next (s.modSite i fun x =>
          { x with head := { x.head with lock := .coarse, trainRun := 0 } })
        ∧ exec (.trainFrameReceived i f) s = .next s ∧ exec (.headSymbolLockLoss i) s = .next s)
      ∧ ((s.site i).head.lock = .coarse →
        exec (.patternRecognised i) s = .next s
        ∧ exec (.headSymbolLockLoss i) s = .next (s.modSite i fun x =>
          { x with head := { x.head with lock := .down, trainRun := 0 } })
        ∧ ((∀ y : TrainFrame, f = some y → y.site.toNat % 8 ≠ i.val) →
          exec (.trainFrameReceived i f) s = .next (s.modSite i fun x =>
            { x with head := { x.head with trainRun := 0 } }))
        ∧ ∀ y : TrainFrame, f = some y → y.site.toNat % 8 = i.val →
          ((s.site i).head.trainRun < 3 →
            exec (.trainFrameReceived i f) s = .next (s.modSite i fun x =>
              { x with head := { x.head with trainRun := x.head.trainRun + 1 } }))
          ∧ (3 ≤ (s.site i).head.trainRun →
            exec (.trainFrameReceived i f) s = .next (s.modSite i fun x => { x with
              head := { x.head with lock := .fine, trainRun := 0 },
              run := if x.run.state = .training then { x.run with state := .idle, trainingLimit := none } else x.run,
              reports := { x.reports with
                summaryPending := x.reports.summaryPending
                  || decide (x.run.state = .training ∨ x.config.lockEdges = .gain ∨ x.config.lockEdges = .both) } }))))

/-- A loss of FINE lock, to DOWN by a loss of symbol lock and to COARSE by a TRAIN frame from a restarted head: it is counted, a
frame being sent ends at once with its check inverted, the loss edge flags the site where it is reported, and the site acts by
its state: IDLE trains again under a new limit, RELEASED has its link taken down, and from ARMED to RETIRED cause LINK_LOST is
raised, which retires a site in test, with abandonment from ACTIVE and DRAINING (R38, R71, R72, R74, R77, R143, R144, R145). The
latest frame sent, with the vectors it shows, is the model's own (log entries 10, 27 and 37); the lock state from which a site
back in TRAINING trains, and the run after a restart whose TRAIN frame echoes another site's number, are the model's reading
(log entry 20), and so are the ignored high bits of that number (R194; log entry 36). -/
def Obligations.LossOfFineLockActsByTheSiteState : Prop :=
  ∀ (s : State) (i : SiteIx) (c : Instr) (target : LockState) (run : Nat) (y z : Site), Hearing s i →
    (c = .headSymbolLockLoss i ∧ target = .down ∧ run = 0)
      ∨ (∃ x : TrainFrame, c = .trainFrameReceived i (some x) ∧ target = .coarse
          ∧ run = if x.site.toNat % 8 = i.val then 1 else 0) →
    y = { s.site i with
      head := { (s.site i).head with
        lock := target, trainRun := run, fineLoss := oneMore (s.site i).head.fineLoss, expander := .idle,
        sent := lastSent s i .inverted },
      reports := { (s.site i).reports with
        summaryPending := (s.site i).reports.summaryPending
          || decide ((s.site i).config.lockEdges = .loss ∨ (s.site i).config.lockEdges = .both) } } →
    z = { y with run := withCause .linkLost y.run } →
    ((s.site i).run.state = .idle → exec c s = .next (s.modSite i fun _ => { y with
        run := { y.run with state := .training, trainingLimit := some (s.clock + 5000000) },
        reports := { y.reports with summaryPending := true } }))
    ∧ ((s.site i).run.state = .released → exec c s = .next (s.modSite i fun _ => { y with
        head := { y.head with drive := .drivenDown, lock := .down, trainRun := 0, controlList := [] },
        supply := { y.supply with latest := none } }))
    ∧ ((s.site i).run.state = .armed ∨ (s.site i).run.state = .primed →
        exec c s = .next ((s.modSite i fun _ => retiredSite z).readFlow))
    ∧ ((s.site i).run.state = .active ∨ (s.site i).run.state = .draining →
        exec c s = .next (((s.dropRefs (copiesLost (s.site i))).modSite i fun _ => abandonedSite z).readFlow))
    ∧ ((s.site i).run.state = .retired → exec c s = .next ((s.modSite i fun _ => { z with
        reports := { z.reports with
          summaryPending := z.reports.summaryPending || decide (z.run ≠ y.run) } }).readFlow))

/-- DEADLINE_EXPIRY raises cause SILENT against an ACTIVE or DRAINING site at the earliest deadline of its in-flight records:
RETIRED with abandonment, a VECTOR_BLOCK frame being sent ended with its check inverted (R77, R93). TRAINING_LIMIT_EXPIRY takes
a site in TRAINING to RETIRED with cause TRAIN_FAIL, its limit stopped, and touches no site in another state (R66). That
DEADLINE_EXPIRY names the site alone and stands at the earliest deadline is the model's reading (log entry 30). The clock at the
event's time and the latest frame sent are the model's own (log entries 2, 10, 27 and 37). -/
def Obligations.DeadlinesAndTrainingLimitsRetire : Prop :=
  ∀ (s u : State) (i : SiteIx), Released s →
    (∀ q : InFlight, q ∈ (s.site i).head.inFlight → (∀ p ∈ (s.site i).head.inFlight, q.deadline ≤ p.deadline) →
      u = { s with clock := max s.clock q.deadline } →
      (s.site i).run.state = .active ∨ (s.site i).run.state = .draining →
      exec (.deadlineExpiry i) s = .next (((u.dropRefs (copiesLost (s.site i))).modSite i fun x =>
        abandonedSite { x with
          run := withCause .silent x.run, head := { x.head with sent := lastBlock u i } }).readFlow))
    ∧ ((s.site i).head.inFlight = [] → exec (.deadlineExpiry i) s = .next s)
    ∧ (∀ t : Nat, (s.site i).run.state = .training → (s.site i).run.trainingLimit = some t →
      exec (.trainingLimitExpiry i) s = .next (({ s with clock := max s.clock t } : State).modSite i fun x => { x with
        run := { withCause .trainFail x.run with state := .retired, trainingLimit := none },
        reports := { x.reports with summaryPending := true } }))
    ∧ ((s.site i).run.state ≠ .training → exec (.trainingLimitExpiry i) s = .next s)

/-! ### Results and fail mapping -/

/-- Frames from a head that nothing takes: outside FINE lock a RESULT, TELEMETRY or unknown frame is discarded, ending a run of
TRAIN frames in COARSE; in FINE an unknown kind is counted; a RESULT frame that fails its check, names no status or lists more
than 64 entries is counted in the CRC count; a RESULT whose tag no in-flight record holds is counted STRAY (R85, R91, R146).
That the entry count of a RESULT is examined whole is the model's reading (log entry 36). -/
def Obligations.HeadFramesNobodyTakesAreCounted : Prop :=
  ∀ (s : State) (i : SiteIx) (f : Option ResultFrame) (g : Option TelemetryFrame) (c : Instr), Released s →
    (c = .unknownHeadFrame i ∨ c = .result i f ∨ c = .telemetry i g →
      ((s.site i).head.drive = .drivenDown ∨ (s.site i).head.lock = .down → exec c s = .next s)
      ∧ ((s.site i).head.drive = .enabled → (s.site i).head.lock = .coarse →
        exec c s = .next (s.modSite i fun x => { x with head := { x.head with trainRun := 0 } })))
    ∧ (Hearing s i →
      exec (.unknownHeadFrame i) s = .next (s.modSite i fun x =>
        { x with head := { x.head with unknownFrames := oneMore x.head.unknownFrames } })
      ∧ ((∀ x : ResultFrame, f = some x → (x.status ≠ 1 ∧ x.status ≠ 2) ∨ 64 < x.entries.length) →
        exec (.result i f) s = .next (s.modSite i fun x =>
          { x with mapper := { x.mapper with crc := oneMore x.mapper.crc } }))
      ∧ ∀ x : ResultFrame, f = some x → x.status = 1 ∨ x.status = 2 → x.entries.length ≤ 64 →
        (∀ q ∈ (s.site i).head.inFlight, q.desc.tag ≠ x.tag) →
        exec (.result i f) s = .next (s.modSite i fun y =>
          { y with mapper := { y.mapper with stray := oneMore y.mapper.stray } }))

/-- A RESULT matched, with no fails to map: the oldest record of its tag is retired as ANSWERED and each older record as LOST,
every one leaving the list with its bank's reference; the frame of a retired record being sent ends with its check inverted;
LOST records or an ABORTED status give MAP_INCOMPLETE; and a DRAINING site whose list is then empty is RETIRED (R37, R43, R76,
R87, R88, R89, R90). The latest frame sent is the model's own (log entries 10, 27 and 37). -/
def Obligations.AMatchedResultRetiresItsRecords : Prop :=
  ∀ (s : State) (i : SiteIx) (f : ResultFrame) (older newer : List InFlight) (record : InFlight) (whole : Bool) (x : Site),
    Hearing s i → (s.site i).head.inFlight = older ++ record :: newer → (∀ q ∈ older, q.desc.tag ≠ f.tag) →
    record.desc.tag = f.tag →
    (f.status = 1 ∧ f.entries = [] ∧ whole = decide (older = []))
      ∨ (f.status = 2 ∧ f.entries.length ≤ 64 ∧ whole = false) →
    x = { s.site i with
      head := { (s.site i).head with
        inFlight := newer,
        expander := if newer = [] then blockCut (s.site i).head.expander else (s.site i).head.expander,
        sent := if newer = [] then lastBlock s i else (s.site i).head.sent },
      mapper := { (s.site i).mapper with
        lost := ((s.site i).mapper.lost + older.length) % 2 ^ 48,
        answered := ((s.site i).mapper.answered + 1) % 2 ^ 48 },
      run := { (s.site i).run with mapIncomplete := (s.site i).run.mapIncomplete || !whole },
      reports := { (s.site i).reports with
        summaryPending := (s.site i).reports.summaryPending || (!whole && !(s.site i).run.mapIncomplete) } } →
    exec (.result i (some f)) s = .next ((s.dropRefs ((older ++ [record]).map InFlight.bound)).modSite i fun _ =>
      if (s.site i).run.state = .draining ∧ newer = [] then retiredSite x else x)

/-- The fail list of a DONE result, in frame order: malformed entries are counted; of the kept entries those with pins left
after the compare mask CK are counted with their failing bits, and each is mapped through the bound bank's tables to one fail
cell event per failing pin, ascending, with region floor(prow / 2^(RB−4)), region row prow mod 2^(RB−4) and cell column pcol·W +
k, which the region concerned takes in that order; the FAIL candidates that the mode lets through join the Report Queue until it
holds 192 records, the first carrying the gap flag, and those that find it so are dropped and counted; no other site changes
(R39, R95, R97, R98, R99, R100, R101, R160, R161). A region that an event turns UNREPAIRABLE gives the site its verdict, and
with `retire_on_unrepairable` set cause UNREPAIRABLE is raised: an ACTIVE site flushes its launch queue and enters DRAINING; a
site that drains with nothing left in flight is RETIRED (R75, R76, R78, R102, R119). Of the vector index the low six bits count,
so that a byte above 63 is read modulo 64 and not malformed for that: the model's reading of R84, R95 and R194 (log entry 36).
The latest frame sent is the model's own (log entries 10, 27 and 37). -/
def Obligations.FailListsAreMappedInOrder : Prop :=
  ∀ (s : State) (i : SiteIx) (f : ResultFrame) (older newer : List InFlight) (record : InFlight) (t : Tables)
    (candidates wanted : List FailRecord) (room : Nat),
    Hearing s i → (s.site i).head.inFlight = older ++ record :: newer → (∀ q ∈ older, q.desc.tag ≠ f.tag) →
    record.desc.tag = f.tag → f.status = 1 → f.entries.length ≤ 64 → (s.site i).config.failLimit ≤ 65535 →
    t = (s.bank record.bound).tables → candidates = failCandidates i t record.desc f.entries →
    wanted = wantedRecords (s.site i) candidates → room = 192 - s.report.queue.length →
    ∃ u : State, exec (.result i (some f)) s = .next u
      ∧ (u.site i).mapper = { (s.site i).mapper with
          lost := ((s.site i).mapper.lost + older.length) % 2 ^ 48,
          answered := ((s.site i).mapper.answered + 1) % 2 ^ 48,
          malformed := raisedBy (s.site i).mapper.malformed
            (f.entries.length - (keptEntries t record.desc none f.entries).length),
          failingVectors := raisedBy (s.site i).mapper.failingVectors candidates.length,
          failingBits := raisedBy (s.site i).mapper.failingBits
            (candidates.flatMap (candidateEvents t.geometry)).length }
      ∧ (∀ g : RegionIx, (u.site i).regions[g]
          = ((candidates.flatMap (candidateEvents t.geometry)).filter fun e => e.1 = g.val).foldl
              (fun x e => x.takeEvent e.2.1 e.2.2) (s.site i).regions[g])
      ∧ (∀ j : SiteIx, j ≠ i → u.site j = s.site j)
      ∧ u.report.queue = s.report.queue ++ ((wanted.take room).zipIdx.map fun r =>
          (⟨.fail { r.1 with gap := decide (r.2 = 0) && (s.site i).reports.gapPending }, s.clock⟩ : QueuedRecord))
      ∧ (u.site i).reports.admitted = raisedBy (s.site i).reports.admitted (wanted.take room).length
      ∧ (u.site i).reports.dropped = raisedBy (s.site i).reports.dropped
          (if wanted.length ≤ room then 0 else candidates.length - room)
      ∧ (u.site i).reports.gapPending
          = (if wanted.length ≤ room then (s.site i).reports.gapPending && decide (wanted = []) else true)
      ∧ (u.site i).run.failGap = ((s.site i).run.failGap || decide (room < wanted.length))
      ∧ u = { s with
          profiles := u.profiles, sites := u.sites, flow := u.flow,
          trunk := { s.trunk with pendingFlow := u.trunk.pendingFlow },
          report := { s.report with queue := u.report.queue, hubPending := u.report.hubPending } }
      ∧ ∀ (condemned cause gone : Bool) (run : RunRecord),
        (s.site i).run.state = .active ∨ (s.site i).run.state = .draining →
        (condemned = true ↔ (s.site i).run.unrepairable = false ∧ ∃ g : RegionIx,
          (s.site i).regions[g].state ≠ .unrepairable ∧ (u.site i).regions[g].state = .unrepairable) →
        cause = (condemned && (s.site i).config.retireOnUnrepairable) →
        gone = (decide (newer = []) && (cause || decide ((s.site i).run.state = .draining))) →
        run = { (s.site i).run with
          mapIncomplete := (s.site i).run.mapIncomplete || decide (older ≠ [])
          failGap := (u.site i).run.failGap
          unrepairable := (s.site i).run.unrepairable || condemned } →
        u.site i = { s.site i with
          run := { (if cause then withCause .unrepairable run else run) with
            state := if gone then .retired else if cause then .draining else (s.site i).run.state }
          head := { (s.site i).head with
            inFlight := newer
            expander := if newer = [] then blockCut (s.site i).head.expander else (s.site i).head.expander
            sent := if newer = [] then lastBlock s i else (s.site i).head.sent
            launchQueue := if cause ∧ (s.site i).run.state = .active then [] else (s.site i).head.launchQueue
            flushed := if cause ∧ (s.site i).run.state = .active then
                ((s.site i).head.flushed + (s.site i).head.launchQueue.length) % 2 ^ 48
              else (s.site i).head.flushed
            controlList := if gone then cutRaised (s.site i).head.controlList else (s.site i).head.controlList }
          mapper := (u.site i).mapper
          regions := (u.site i).regions
          marks := if gone then { (s.site i).marks with scheduled := [] } else (s.site i).marks
          reports := { (s.site i).reports with
            admitted := (u.site i).reports.admitted
            dropped := (u.site i).reports.dropped
            gapPending := (u.site i).reports.gapPending
            summaryPending := (s.site i).reports.summaryPending || condemned || gone
              || decide (run ≠ (s.site i).run) } }
        ∧ u.profiles = (s.dropRefs ((older ++ [record]).map InFlight.bound
            ++ if cause ∧ (s.site i).run.state = .active then (s.site i).head.launchQueue.map LaunchEntry.bound
              else [])).profiles

/-! ### Supply and alignment -/

/-- TELEMETRY samples: a frame that fails its check is counted; outside test a sample leaves its current as the latest; in test
it also raises the peak, and a blanked sample counts the blanking down, any other counts above the trip level and returns the
count to 0 at or below it; at the deglitch count OVERCURRENT is raised, which retires the site, with abandonment from ACTIVE and
DRAINING. A sample with a phase error that trips retires the site in the same way; whether the Mark Unit took the phase error
before is open (R77, R146, R150, R151, R153, R154, R155; log entry 6); a sample with a phase error that trips nothing has its
statement with the alignment loop. The latest frame sent is the model's own (log entries 10, 27 and 37), and so is that the high
four bits of the current are ignored (R194; log entry 36). -/
def Obligations.TelemetrySamplesAreSupervised : Prop :=
  ∀ (s : State) (i : SiteIx) (f : Option TelemetryFrame), Hearing s i →
    ((∀ x : TelemetryFrame, f = some x → 1 < x.present.toNat) →
      exec (.telemetry i f) s = .next (s.modSite i fun x =>
        { x with head := { x.head with telemetryCheck := oneMore x.head.telemetryCheck } }))
    ∧ ∀ (x : TelemetryFrame) (current count : Nat) (noted : SiteSupply) (z : Site),
      f = some x → current = x.current.toNat % 4096 →
      noted = { (s.site i).supply with
        latest := some current, peak := some (max ((s.site i).supply.peak.getD 0) current) } →
      count = min ((s.site i).supply.overCount + 1) 16 →
      z = { s.site i with supply := { noted with overCount := count }, run := withCause .overcurrent (s.site i).run } →
      (x.present = 0 → (s.site i).run.state.inTest = false →
        exec (.telemetry i f) s = .next (s.modSite i fun y =>
          { y with supply := { y.supply with latest := some current } }))
      ∧ (x.present = 0 → (s.site i).run.state.inTest = true → 0 < (s.site i).supply.blanking →
        exec (.telemetry i f) s = .next (s.modSite i fun y =>
          { y with supply := { noted with blanking := y.supply.blanking - 1 } }))
      ∧ (x.present = 0 → (s.site i).run.state.inTest = true → (s.site i).supply.blanking = 0 →
          current ≤ (s.pairOf i).tripLevel →
        exec (.telemetry i f) s = .next (s.modSite i fun y => { y with supply := { noted with overCount := 0 } }))
      ∧ (x.present = 0 → (s.site i).run.state.inTest = true → (s.site i).supply.blanking = 0 →
          (s.pairOf i).tripLevel < current →
        (count < (s.pairOf i).deglitch →
          exec (.telemetry i f) s = .next (s.modSite i fun y => { y with supply := { noted with overCount := count } }))
        ∧ ((s.pairOf i).deglitch ≤ count → (s.site i).run.state = .armed ∨ (s.site i).run.state = .primed →
          exec (.telemetry i f) s = .next ((s.modSite i fun _ => retiredSite z).readFlow))
        ∧ ((s.pairOf i).deglitch ≤ count → (s.site i).run.state = .active ∨ (s.site i).run.state = .draining →
          exec (.telemetry i f) s = .next (((s.dropRefs (copiesLost (s.site i))).modSite i fun _ =>
            abandonedSite { z with head := { z.head with sent := lastBlock s i } }).readFlow)))
      ∧ ∀ (w : State) (y : Site), x.present = 1 → (s.site i).supply.blanking = 0 → (s.pairOf i).tripLevel < current →
        (s.pairOf i).deglitch ≤ count →
        (((s.site i).run.state = .armed ∨ (s.site i).run.state = .primed) ∧ y = retiredSite z ∧ w = s)
          ∨ (((s.site i).run.state = .active ∨ (s.site i).run.state = .draining)
            ∧ y = abandonedSite { z with head := { z.head with sent := lastBlock s i } }
            ∧ w = s.dropRefs (copiesLost (s.site i))) →
        ∃ (free offset : Nat) (residual a moved : Int) (saturated : Bool),
          a = y.marks.residual
            + (if y.config.errorMode = .oneStep then x.phase.toInt.sign else x.phase.toInt) * y.config.gain
          ∧ moved = y.marks.offset - a.tdiv 4
          ∧ exec (.telemetry i f) s = .next { (w.modSite i fun _ => { y with
              marks := { y.marks with offset := offset, residual := residual }
              run := { y.run with offsetSaturated := saturated } }).readFlow with freeIndex := free }
          ∧ ((s.site i).run.state = .armed ∨ (s.site i).config.gain = 0 →
            offset = y.marks.offset ∧ residual = y.marks.residual ∧ saturated = y.run.offsetSaturated)
          ∧ ((offset = y.marks.offset ∧ residual = y.marks.residual ∧ saturated = y.run.offsetSaturated)
            ∨ (0 ≤ moved ∧ moved ≤ 4095 ∧ (offset : Int) = moved ∧ residual = a.tmod 4 ∧ saturated = false)
            ∨ ((moved < 0 ∨ 4095 < moved) ∧ offset = (if moved < 0 then 0 else 4095) ∧ residual = 0
              ∧ saturated = true))

/-- A sample with a phase error that trips nothing: its current is taken as that of any sample, and the alignment loop takes the
phase error: in PRIMED, ACTIVE and DRAINING with a gain above 0 the residual gains step × G, the offset moves back by the
residual over 4 truncated toward zero, and the residual keeps the rest; beyond 0..4095 the offset stops at the end, the residual
becomes 0 and OFFSET_SATURATED is set, flagging the site when it was clear; in any other state, or with gain 0, offset, residual
and flag stay (R136, R137, R138, R150, R151, R153, R154). The high four bits of the current are ignored: the model's reading of
R194 and R198 (log entry 36). -/
def Obligations.TheAlignmentLoopMovesTheOffset : Prop :=
  ∀ (s : State) (i : SiteIx) (f : TelemetryFrame) (a moved : Int), Hearing s i → f.present = 1 →
    (s.site i).run.state.inTest = false ∨ 0 < (s.site i).supply.blanking
      ∨ f.current.toNat % 4096 ≤ (s.pairOf i).tripLevel
      ∨ min ((s.site i).supply.overCount + 1) 16 < (s.pairOf i).deglitch →
    a = (s.site i).marks.residual
      + (if (s.site i).config.errorMode = .oneStep then f.phase.toInt.sign else f.phase.toInt)
        * (s.site i).config.gain →
    moved = (s.site i).marks.offset - a.tdiv 4 →
    ∃ t : State, exec (.telemetry i (some f)) s = .next t ∧ t = { s with sites := t.sites }
      ∧ (∀ j : SiteIx, j ≠ i → t.site j = s.site j)
      ∧ t.site i = { s.site i with
          supply := sampledSupply (s.site i) (f.current.toNat % 4096) (s.pairOf i).tripLevel, marks := (t.site i).marks,
          run := { (s.site i).run with offsetSaturated := (t.site i).run.offsetSaturated },
          reports := { (s.site i).reports with summaryPending := (t.site i).reports.summaryPending } }
      ∧ (t.site i).marks = { (s.site i).marks with
          offset := (t.site i).marks.offset, residual := (t.site i).marks.residual }
      ∧ ((s.site i).run.state.marked = false ∨ (s.site i).config.gain = 0 →
          (t.site i).marks = (s.site i).marks ∧ (t.site i).run = (s.site i).run
          ∧ (t.site i).reports = (s.site i).reports)
      ∧ ((s.site i).run.state.marked = true → (s.site i).config.gain ≠ 0 → 0 ≤ moved → moved ≤ 4095 →
          ((t.site i).marks.offset : Int) = moved ∧ (t.site i).marks.residual = a.tmod 4
          ∧ (t.site i).run.offsetSaturated = false ∧ (t.site i).reports = (s.site i).reports)
      ∧ ((s.site i).run.state.marked = true → (s.site i).config.gain ≠ 0 → moved < 0 ∨ 4095 < moved →
          (t.site i).marks.offset = (if moved < 0 then 0 else 4095) ∧ (t.site i).marks.residual = 0
          ∧ (t.site i).run.offsetSaturated = true
          ∧ (t.site i).reports.summaryPending
              = ((s.site i).reports.summaryPending || !(s.site i).run.offsetSaturated))

/-! ### The repair screen -/

/-- What a region does with a fail cell event. UNREPAIRABLE: it is counted as ignored; in an assigned row or column: counted as
a covered hit, once; at a cell already in the list: that cell's hits rise, up to 255; nothing else changes (R109, R110, R118). A
new cell outside the assigned lines: with fewer than 32 cells it joins the tail with hits 1, CLEAN becoming TRACKING with the
summary-pending flag set, and the screen passes and the bound check follow; with 32 cells, where its row or column would exceed
its limit, the passes follow with the cell counted and not stored, else the region becomes UNREPAIRABLE, flagged, and stores
nothing (R111, R112, R120). The passes are those of `Screened`: forced rows before forced columns, each ascending, while spares
last, again until none is forced, then the bound (R113 to R117). -/
def Obligations.RegionsTakeFailCellEvents : Prop :=
  ∀ (g : Region) (r c : Nat),
    (g.state = .unrepairable → g.takeEvent r c = { g with ignored := oneMore g.ignored })
    ∧ (g.state ≠ .unrepairable → r ∈ g.rows ∨ c ∈ g.cols → g.takeEvent r c = { g with covered := oneMore g.covered })
    ∧ (∀ (before after : List Cell) (hits : Nat), g.state ≠ .unrepairable → r ∉ g.rows → c ∉ g.cols →
      g.cells = before ++ ⟨r, c, hits⟩ :: after → (g.cells.map fun x => (x.row, x.col)).Nodup →
      g.takeEvent r c = { g with cells := before ++ ⟨r, c, min (hits + 1) 255⟩ :: after })
    ∧ (g.state ≠ .unrepairable → r ∉ g.rows → c ∉ g.cols → (r, c) ∉ (g.cells.map fun x => (x.row, x.col)) →
      (g.cells.length < 32 →
        Screened { g with
          cells := g.cells ++ [⟨r, c, 1⟩], state := .tracking,
          summaryPending := g.summaryPending || decide (g.state = .clean) } [] (g.takeEvent r c))
      ∧ (32 ≤ g.cells.length →
        g.scRem < (g.cells.map Cell.row).count r + 1 ∨ g.srRem < (g.cells.map Cell.col).count c + 1 →
        Screened g [(r, c)] (g.takeEvent r c))
      ∧ (32 ≤ g.cells.length →
        (g.cells.map Cell.row).count r + 1 ≤ g.scRem → (g.cells.map Cell.col).count c + 1 ≤ g.srRem →
        g.takeEvent r c = condemned g))

/-- The screen never condemns a repairable region: a region that has been laid out with SR spare rows and SC spare columns and
that a run of fail cell events has made UNREPAIRABLE has failing cells that no choice of SR rows and SC columns covers (R113 to
R117). -/
def Obligations.CondemnedRegionsCannotBeRepaired : Prop :=
  ∀ (sr sc : Nat) (events : List (Nat × Nat)), sr ≤ 4 → sc ≤ 4 →
    (events.foldl (fun g e => g.takeEvent e.1 e.2) ({ Region.reset with srRem := sr, scRem := sc } : Region)).state
      = .unrepairable →
    ¬ ∃ rows cols : List Nat, rows.length ≤ sr ∧ cols.length ≤ sc ∧ ∀ e ∈ events, e.1 ∈ rows ∨ e.2 ∈ cols

/-! ### The whole hub -/

/-- What one site's events reach: its own site, reference counts, the Report Queue and what the Flow Monitor reads from it; no
other site, no setting of the hub, no bank contents, no pointer and no pending swap (R1, R14, R57). The clock and the count of
free values are the model's own (log entries 2 and 6). -/
def Obligations.SiteEventsStayInTheirLane : Prop :=
  ∀ (s t : State) (i : SiteIx) (c : Instr), exec c s = .next t →
    c ∈ ([.lineMarkDue i, .linePulseEnd i, .launch i, .vectorBlockEnd i, .controlFrameSend i, .controlFrameEnd i,
        .patternRecognised i, .headSymbolLockLoss i, .unknownHeadFrame i, .deadlineExpiry i,
        .trainingLimitExpiry i] : List Instr)
      ∨ (∃ f : Option TrainFrame, c = .trainFrameReceived i f) ∨ (∃ f : Option ResultFrame, c = .result i f)
      ∨ (∃ f : Option TelemetryFrame, c = .telemetry i f) →
    (∀ j : SiteIx, j ≠ i → t.site j = s.site j)
    ∧ (t.site i).config = (s.site i).config
    ∧ t = { s with
        clock := t.clock, freeIndex := t.freeIndex, profiles := t.profiles, sites := t.sites, flow := t.flow,
        report := { s.report with queue := t.report.queue, hubPending := t.report.hubPending },
        trunk := { s.trunk with pendingFlow := t.trunk.pendingFlow } }
    ∧ (∃ new : List QueuedRecord, t.report.queue = s.report.queue ++ new)
    ∧ ∀ (k : ProfileIx) (name : BankName),
        (t.profile k).active = (s.profile k).active ∧ (t.profile k).pendingSwap = (s.profile k).pendingSwap
        ∧ (t.profile k).bank name
            = { (s.profile k).bank name with refCount := ((t.profile k).bank name).refCount }

/-- The changes of the hub state: only the end of a self-test leaves SELFTEST, only a reset returns to it, HOLDOVER is never
left without RESUME after a BEAT, short of a reset, and HOLDOVER is entered from READY alone, by the beat detector or a loss of
the trunk link (R188, R189, R190, R191). -/
def Obligations.OnlyTheseEventsChangeTheHubState : Prop :=
  ∀ (s t : State) (c : Instr), exec c s = .next t →
    (s.hub = .selftest → t.hub ≠ .selftest → (∃ r : GroupResults, c = .selftestEnd r))
    ∧ (s.hub ≠ .selftest → t.hub = .selftest → c = .powerOnReset ∨ c = .resetPin ∨ c = .hubReset)
    ∧ (QuietInSelfTest s → s.hub = .holdover → t.hub ≠ .holdover →
        (c = .resume ∧ s.beat.seen = true ∧ t.hub = .ready) ∨ c = .powerOnReset ∨ c = .resetPin ∨ c = .hubReset)
    ∧ (s.hub ≠ .holdover → t.hub = .holdover → s.hub = .ready ∧ s.beat.limit ≠ 0 ∧ t.beat.seen = false
        ∧ t.report.hubPending = true ∧ c ∈ ([.beatExpiry, .trunkSymbolLockLoss, .mainframeRestart] : List Instr))

/-- A bank with a nonzero reference count, or the active bank, is never written: its contents change at power-on and at the end
of a self-test alone (R7, R12, R14). That a held RESET pin keeps the contents until then is the model's choice (log entry 8). -/
def Obligations.BanksInUseAreNeverWritten : Prop :=
  ∀ (s t : State) (c : Instr) (k : ProfileIx) (name : BankName), exec c s = .next t →
    name = (s.profile k).active ∨ ((s.profile k).bank name).refCount ≠ 0 →
    c ≠ .powerOnReset → (∀ r : GroupResults, c ≠ .selftestEnd r) →
    ((t.profile k).bank name).tables = ((s.profile k).bank name).tables

/-! ### Invariants that every step keeps -/

/-- Every step keeps every offset in 0..4095 and every residual in −3..3 (R135, R137, R138). -/
def Obligations.StepsKeepMarksInRange : Prop :=
  ∀ s t : State, MarksInRange s → step s = .next t → MarksInRange t

/-- Every step keeps the two conservation relations of the pattern path, the capacities of launch queue and in-flight list, and
their emptiness outside the states that hold them (R49, R50, R54, R92). -/
def Obligations.StepsConserveCopies : Prop :=
  ∀ s t : State, QueuesHeld s ∧ Conserved s → step s = .next t → QueuesHeld t ∧ Conserved t

/-- The laws of the table banks, which a step keeps together: reference counts count the bound copies, VALID banks pass
validation, a site in test keeps its join geometry, and every copy is bound to a VALID bank of its site's geometry (R14, R19,
R20). -/
def Obligations.StepsKeepTheBankLaws : Prop :=
  ∀ s t : State,
    QuietInSelfTest s ∧ BanksValid s ∧ GeometryLaw s ∧ RefsCounted s ∧ QueuesHeld s ∧ CopiesBoundRight s →
    step s = .next t →
    QuietInSelfTest t ∧ BanksValid t ∧ GeometryLaw t ∧ RefsCounted t ∧ QueuesHeld t ∧ CopiesBoundRight t

/-- Every step keeps the control credit of four, the bounds of the Report Queue, the quiet of SELFTEST, and the agreement of the
flow state with the levels that set it; and a step that changes the flow state, a reset apart, leaves the flow frame of the new
state pending and the hub's summary-pending flag set (R57, R58, R59, R158, R172, R173, R174, R191). -/
def Obligations.StepsKeepCreditQueueAndFlow : Prop :=
  ∀ s t : State, CreditKept s ∧ ReportBounded s ∧ QuietInSelfTest s ∧ FlowAgrees s → step s = .next t →
    (CreditKept t ∧ ReportBounded t ∧ QuietInSelfTest t ∧ FlowAgrees t)
    ∧ (t.hub ≠ .selftest → t.flow ≠ s.flow →
      t.trunk.pendingFlow = some (if t.flow = .held then .hold else .release) ∧ t.report.hubPending = true)

/-- Every step keeps the head links as the table of site states says, the expander on the newest record, the line marks in order
of due time, and the training limit running in TRAINING alone (R37, R61, R66, R69, R123, R134, R141). That the expander's record
is the newest in flight is how the model keeps it (log entry 27). -/
def Obligations.StepsKeepLinksAndMarksWithTheirSites : Prop :=
  ∀ s t : State, LinksFollow s ∧ ExpanderHoldsNewest s ∧ MarksScheduled s ∧ TrainingTimed s → step s = .next t →
    LinksFollow t ∧ ExpanderHoldsNewest t ∧ MarksScheduled t ∧ TrainingTimed t

/-- Every step keeps the region laws (spare accounting, cell bound, no cell in an assigned line, no line over its limit), the
site verdict, and the clean state of a site that has yet to join (R65, R104, R112, R115, R116, R119). -/
def Obligations.StepsKeepRegionsSound : Prop :=
  ∀ s t : State, RegionsSound s ∧ BanksValid s ∧ QueuesHeld s ∧ FreshBeforeJoin s ∧ VerdictAgrees s → step s = .next t →
    RegionsSound t ∧ BanksValid t ∧ QueuesHeld t ∧ FreshBeforeJoin t ∧ VerdictAgrees t

/-- The hub right after reset meets every law that its steps keep. The clock and the queue of commands are the model's own; the
reset values that the manual does not state are the model's choice (log entry 7). -/
def Obligations.ResetMeetsTheLaws : Prop :=
  MarksInRange State.reset ∧ QueuesHeld State.reset ∧ Conserved State.reset ∧ QuietInSelfTest State.reset
    ∧ BanksValid State.reset ∧ GeometryLaw State.reset ∧ RefsCounted State.reset ∧ CopiesBoundRight State.reset
    ∧ CreditKept State.reset ∧ ReportBounded State.reset ∧ FlowAgrees State.reset ∧ LinksFollow State.reset
    ∧ ExpanderHoldsNewest State.reset ∧ MarksScheduled State.reset ∧ TrainingTimed State.reset
    ∧ RegionsSound State.reset ∧ FreshBeforeJoin State.reset ∧ VerdictAgrees State.reset
end

