-- ==== Sys2Proof/Laws/State.lean ====
section
/-! SUPPORT. What each update of a part of the state leaves as it was, field by field, so that no proof unfolds a record
update. The site updates all rewrite to `modSite`, the bank updates to `modProfile`. -/
namespace Sys2Proof.Machine

variable (s t : State)

/-! ### Sites -/

theorem State.sites_ext (h : ∀ i : SiteIx, s.site i = t.site i) : s.sites = t.sites := by
  ext i hi : 1
  exact h ⟨i, hi⟩

@[simp] theorem State.site_modSite_same (i : SiteIx) (f : Site → Site) : (s.modSite i f).site i = f (s.site i) := by
  simp [State.site, State.modSite]

theorem State.site_modSite_ne {i j : SiteIx} (h : j ≠ i) (f : Site → Site) : (s.modSite i f).site j = s.site j := by
  have : (i : Nat) ≠ j := fun e => h (Fin.ext e.symm)
  simp [State.site, State.modSite, this]

theorem State.site_modSite (i j : SiteIx) (f : Site → Site) :
    (s.modSite i f).site j = if j = i then f (s.site i) else s.site j := by
  by_cases h : j = i
  · subst h; simp
  · simp [h, State.site_modSite_ne s h]

@[simp] theorem State.modSite_modSite (i : SiteIx) (f g : Site → Site) :
    (s.modSite i f).modSite i g = s.modSite i fun x => g (f x) := by
  simp [State.modSite]

@[simp] theorem State.modSite_self (i : SiteIx) : s.modSite i (fun x => x) = s := by
  simp [State.modSite]

@[simp] theorem State.sites_getElem (i : SiteIx) : s.sites[i.val] = s.site i := rfl

/-- An update that leaves the site as it stands leaves the state as it is. -/
theorem State.modSite_of_id (i : SiteIx) {f : Site → Site} (h : f (s.site i) = s.site i) : s.modSite i f = s := by
  have : s.modSite i f = s.modSite i fun x => x := by simp only [State.modSite]; rw [show f s.sites[i] = s.sites[i] from h]
  rw [this, State.modSite_self]

/-- Only what the update gives at the site as it stands counts. -/
theorem State.modSite_congr (i : SiteIx) {f g : Site → Site} (h : f (s.site i) = g (s.site i)) :
    s.modSite i f = s.modSite i g := by
  simp [State.modSite, h]

@[simp] theorem State.modRun_eq (i : SiteIx) (f : RunRecord → RunRecord) :
    s.modRun i f = s.modSite i fun x => { x with run := f x.run } := rfl

@[simp] theorem State.modConfig_eq (i : SiteIx) (f : SiteConfig → SiteConfig) :
    s.modConfig i f = s.modSite i fun x => { x with config := f x.config } := rfl

@[simp] theorem State.modHead_eq (i : SiteIx) (f : HeadPort → HeadPort) :
    s.modHead i f = s.modSite i fun x => { x with head := f x.head } := rfl

@[simp] theorem State.modMapper_eq (i : SiteIx) (f : FailCounters → FailCounters) :
    s.modMapper i f = s.modSite i fun x => { x with mapper := f x.mapper } := rfl

@[simp] theorem State.modMarks_eq (i : SiteIx) (f : SiteMarks → SiteMarks) :
    s.modMarks i f = s.modSite i fun x => { x with marks := f x.marks } := rfl

@[simp] theorem State.modSupply_eq (i : SiteIx) (f : SiteSupply → SiteSupply) :
    s.modSupply i f = s.modSite i fun x => { x with supply := f x.supply } := rfl

@[simp] theorem State.modReports_eq (i : SiteIx) (f : SiteReports → SiteReports) :
    s.modReports i f = s.modSite i fun x => { x with reports := f x.reports } := rfl

@[simp] theorem State.modRegion_eq (i : SiteIx) (g : RegionIx) (f : Region → Region) :
    s.modRegion i g f = s.modSite i fun x => { x with regions := x.regions.set g (f x.regions[g]) } := rfl

@[simp] theorem State.pending_modSite (i : SiteIx) (f : Site → Site) : (s.modSite i f).pending = s.pending := rfl
@[simp] theorem State.clock_modSite (i : SiteIx) (f : Site → Site) : (s.modSite i f).clock = s.clock := rfl
@[simp] theorem State.freeIndex_modSite (i : SiteIx) (f : Site → Site) : (s.modSite i f).freeIndex = s.freeIndex := rfl
@[simp] theorem State.resetPin_modSite (i : SiteIx) (f : Site → Site) : (s.modSite i f).resetPin = s.resetPin := rfl
@[simp] theorem State.hub_modSite (i : SiteIx) (f : Site → Site) : (s.modSite i f).hub = s.hub := rfl
@[simp] theorem State.selfTest_modSite (i : SiteIx) (f : Site → Site) : (s.modSite i f).selfTest = s.selfTest := rfl
@[simp] theorem State.outcome_modSite (i : SiteIx) (f : Site → Site) : (s.modSite i f).outcome = s.outcome := rfl
@[simp] theorem State.trunk_modSite (i : SiteIx) (f : Site → Site) : (s.modSite i f).trunk = s.trunk := rfl
@[simp] theorem State.beat_modSite (i : SiteIx) (f : Site → Site) : (s.modSite i f).beat = s.beat := rfl
@[simp] theorem State.sorter_modSite (i : SiteIx) (f : Site → Site) : (s.modSite i f).sorter = s.sorter := rfl
@[simp] theorem State.replicator_modSite (i : SiteIx) (f : Site → Site) : (s.modSite i f).replicator = s.replicator := rfl
@[simp] theorem State.profiles_modSite (i : SiteIx) (f : Site → Site) : (s.modSite i f).profiles = s.profiles := rfl
@[simp] theorem State.marks_modSite (i : SiteIx) (f : Site → Site) : (s.modSite i f).marks = s.marks := rfl
@[simp] theorem State.pairs_modSite (i : SiteIx) (f : Site → Site) : (s.modSite i f).pairs = s.pairs := rfl
@[simp] theorem State.report_modSite (i : SiteIx) (f : Site → Site) : (s.modSite i f).report = s.report := rfl
@[simp] theorem State.flow_modSite (i : SiteIx) (f : Site → Site) : (s.modSite i f).flow = s.flow := rfl
@[simp] theorem State.agent_modSite (i : SiteIx) (f : Site → Site) : (s.modSite i f).agent = s.agent := rfl
@[simp] theorem State.profile_modSite (i : SiteIx) (f : Site → Site) (k : ProfileIx) :
    (s.modSite i f).profile k = s.profile k := rfl
@[simp] theorem State.bank_modSite (i : SiteIx) (f : Site → Site) (r : BankRef) :
    (s.modSite i f).bank r = s.bank r := rfl
@[simp] theorem State.pairOf_modSite (i j : SiteIx) (f : Site → Site) : (s.modSite i f).pairOf j = s.pairOf j := rfl

/-! ### Profiles -/

theorem State.profiles_ext (h : ∀ k : ProfileIx, s.profile k = t.profile k) : s.profiles = t.profiles := by
  ext k hk : 1
  exact h ⟨k, hk⟩

@[simp] theorem State.profile_modProfile_same (k : ProfileIx) (f : Profile → Profile) :
    (s.modProfile k f).profile k = f (s.profile k) := by
  simp [State.profile, State.modProfile]

theorem State.profile_modProfile_ne {k l : ProfileIx} (h : l ≠ k) (f : Profile → Profile) :
    (s.modProfile k f).profile l = s.profile l := by
  have : (k : Nat) ≠ l := fun e => h (Fin.ext e.symm)
  simp [State.profile, State.modProfile, this]

theorem State.profile_modProfile (k l : ProfileIx) (f : Profile → Profile) :
    (s.modProfile k f).profile l = if l = k then f (s.profile k) else s.profile l := by
  by_cases h : l = k
  · subst h; simp
  · simp [h, State.profile_modProfile_ne s h]

@[simp] theorem State.modProfile_modProfile (k : ProfileIx) (f g : Profile → Profile) :
    (s.modProfile k f).modProfile k g = s.modProfile k fun p => g (f p) := by
  simp [State.modProfile]

@[simp] theorem State.profiles_getElem (k : ProfileIx) : s.profiles[k.val] = s.profile k := rfl

@[simp] theorem State.pending_modProfile (k : ProfileIx) (f : Profile → Profile) : (s.modProfile k f).pending = s.pending := rfl
@[simp] theorem State.clock_modProfile (k : ProfileIx) (f : Profile → Profile) : (s.modProfile k f).clock = s.clock := rfl
@[simp] theorem State.freeIndex_modProfile (k : ProfileIx) (f : Profile → Profile) : (s.modProfile k f).freeIndex = s.freeIndex := rfl
@[simp] theorem State.resetPin_modProfile (k : ProfileIx) (f : Profile → Profile) : (s.modProfile k f).resetPin = s.resetPin := rfl
@[simp] theorem State.hub_modProfile (k : ProfileIx) (f : Profile → Profile) : (s.modProfile k f).hub = s.hub := rfl
@[simp] theorem State.selfTest_modProfile (k : ProfileIx) (f : Profile → Profile) : (s.modProfile k f).selfTest = s.selfTest := rfl
@[simp] theorem State.outcome_modProfile (k : ProfileIx) (f : Profile → Profile) : (s.modProfile k f).outcome = s.outcome := rfl
@[simp] theorem State.trunk_modProfile (k : ProfileIx) (f : Profile → Profile) : (s.modProfile k f).trunk = s.trunk := rfl
@[simp] theorem State.beat_modProfile (k : ProfileIx) (f : Profile → Profile) : (s.modProfile k f).beat = s.beat := rfl
@[simp] theorem State.sorter_modProfile (k : ProfileIx) (f : Profile → Profile) : (s.modProfile k f).sorter = s.sorter := rfl
@[simp] theorem State.replicator_modProfile (k : ProfileIx) (f : Profile → Profile) : (s.modProfile k f).replicator = s.replicator := rfl
@[simp] theorem State.sites_modProfile (k : ProfileIx) (f : Profile → Profile) : (s.modProfile k f).sites = s.sites := rfl
@[simp] theorem State.marks_modProfile (k : ProfileIx) (f : Profile → Profile) : (s.modProfile k f).marks = s.marks := rfl
@[simp] theorem State.pairs_modProfile (k : ProfileIx) (f : Profile → Profile) : (s.modProfile k f).pairs = s.pairs := rfl
@[simp] theorem State.report_modProfile (k : ProfileIx) (f : Profile → Profile) : (s.modProfile k f).report = s.report := rfl
@[simp] theorem State.flow_modProfile (k : ProfileIx) (f : Profile → Profile) : (s.modProfile k f).flow = s.flow := rfl
@[simp] theorem State.agent_modProfile (k : ProfileIx) (f : Profile → Profile) : (s.modProfile k f).agent = s.agent := rfl
@[simp] theorem State.site_modProfile (k : ProfileIx) (f : Profile → Profile) (i : SiteIx) :
    (s.modProfile k f).site i = s.site i := rfl
@[simp] theorem State.pairOf_modProfile (k : ProfileIx) (f : Profile → Profile) (i : SiteIx) :
    (s.modProfile k f).pairOf i = s.pairOf i := rfl

/-- Site updates and profile updates do not meet. -/
theorem State.modProfile_modSite (i : SiteIx) (f : Site → Site) (k : ProfileIx) (g : Profile → Profile) :
    (s.modSite i f).modProfile k g = (s.modProfile k g).modSite i f := rfl

@[simp] theorem State.modBank_eq (r : BankRef) (f : Bank → Bank) :
    s.modBank r f = s.modProfile r.profile fun p => p.modBank r.bank f := rfl

@[simp] theorem Profile.active_modBank (p : Profile) (n : BankName) (f : Bank → Bank) : (p.modBank n f).active = p.active := by
  cases n <;> rfl
@[simp] theorem Profile.pendingSwap_modBank (p : Profile) (n : BankName) (f : Bank → Bank) :
    (p.modBank n f).pendingSwap = p.pendingSwap := by
  cases n <;> rfl
@[simp] theorem Profile.bank_modBank_same (p : Profile) (n : BankName) (f : Bank → Bank) :
    (p.modBank n f).bank n = f (p.bank n) := by
  cases n <;> rfl
theorem Profile.bank_modBank_ne (p : Profile) {m n : BankName} (h : m ≠ n) (f : Bank → Bank) :
    (p.modBank n f).bank m = p.bank m := by
  cases m <;> cases n <;> first | rfl | exact absurd rfl h

/-! ### A state written out -/

variable (a1 : List Instr) (a2 a3 : Nat) (a4 : Level) (a5 : HubState) (a6 : Option SelfTest) (a7 : TestOutcome)
  (a8 : TrunkPort) (a9 : BeatDetector) (a10 : FrameSorter) (a11 : Replicator) (a12 : Vector Profile 4)
  (a13 : Vector Site 8) (a14 : MarkUnit) (a15 : Vector PairSettings 4) (a16 : ReportEngine) (a17 : FlowState) (a18 : Agent)

@[simp] theorem State.site_mk (i : SiteIx) :
    (State.mk a1 a2 a3 a4 a5 a6 a7 a8 a9 a10 a11 a12 a13 a14 a15 a16 a17 a18).site i = a13[i] := rfl
@[simp] theorem State.profile_mk (k : ProfileIx) :
    (State.mk a1 a2 a3 a4 a5 a6 a7 a8 a9 a10 a11 a12 a13 a14 a15 a16 a17 a18).profile k = a12[k] := rfl
@[simp] theorem State.bank_mk (r : BankRef) :
    (State.mk a1 a2 a3 a4 a5 a6 a7 a8 a9 a10 a11 a12 a13 a14 a15 a16 a17 a18).bank r = a12[r.profile].bank r.bank := rfl
@[simp] theorem State.pairOf_mk (i : SiteIx) :
    (State.mk a1 a2 a3 a4 a5 a6 a7 a8 a9 a10 a11 a12 a13 a14 a15 a16 a17 a18).pairOf i = a15[i.pair] := rfl

/-! ### Flags -/

@[simp] theorem State.flagSite_eq (i : SiteIx) :
    s.flagSite i = s.modSite i fun x => { x with reports := { x.reports with summaryPending := true } } := rfl

@[simp] theorem State.pending_flagHub : s.flagHub.pending = s.pending := rfl
@[simp] theorem State.clock_flagHub : s.flagHub.clock = s.clock := rfl
@[simp] theorem State.freeIndex_flagHub : s.flagHub.freeIndex = s.freeIndex := rfl
@[simp] theorem State.resetPin_flagHub : s.flagHub.resetPin = s.resetPin := rfl
@[simp] theorem State.hub_flagHub : s.flagHub.hub = s.hub := rfl
@[simp] theorem State.selfTest_flagHub : s.flagHub.selfTest = s.selfTest := rfl
@[simp] theorem State.outcome_flagHub : s.flagHub.outcome = s.outcome := rfl
@[simp] theorem State.trunk_flagHub : s.flagHub.trunk = s.trunk := rfl
@[simp] theorem State.beat_flagHub : s.flagHub.beat = s.beat := rfl
@[simp] theorem State.sorter_flagHub : s.flagHub.sorter = s.sorter := rfl
@[simp] theorem State.replicator_flagHub : s.flagHub.replicator = s.replicator := rfl
@[simp] theorem State.profiles_flagHub : s.flagHub.profiles = s.profiles := rfl
@[simp] theorem State.sites_flagHub : s.flagHub.sites = s.sites := rfl
@[simp] theorem State.marks_flagHub : s.flagHub.marks = s.marks := rfl
@[simp] theorem State.pairs_flagHub : s.flagHub.pairs = s.pairs := rfl
@[simp] theorem State.flow_flagHub : s.flagHub.flow = s.flow := rfl
@[simp] theorem State.agent_flagHub : s.flagHub.agent = s.agent := rfl
@[simp] theorem State.site_flagHub (i : SiteIx) : s.flagHub.site i = s.site i := rfl
@[simp] theorem State.report_flagHub : s.flagHub.report = { s.report with hubPending := true } := rfl

@[simp] theorem State.pending_changeFlow (f : FlowState) : (s.changeFlow f).pending = s.pending := rfl
@[simp] theorem State.clock_changeFlow (f : FlowState) : (s.changeFlow f).clock = s.clock := rfl
@[simp] theorem State.freeIndex_changeFlow (f : FlowState) : (s.changeFlow f).freeIndex = s.freeIndex := rfl
@[simp] theorem State.resetPin_changeFlow (f : FlowState) : (s.changeFlow f).resetPin = s.resetPin := rfl
@[simp] theorem State.hub_changeFlow (f : FlowState) : (s.changeFlow f).hub = s.hub := rfl
@[simp] theorem State.selfTest_changeFlow (f : FlowState) : (s.changeFlow f).selfTest = s.selfTest := rfl
@[simp] theorem State.outcome_changeFlow (f : FlowState) : (s.changeFlow f).outcome = s.outcome := rfl
@[simp] theorem State.beat_changeFlow (f : FlowState) : (s.changeFlow f).beat = s.beat := rfl
@[simp] theorem State.sorter_changeFlow (f : FlowState) : (s.changeFlow f).sorter = s.sorter := rfl
@[simp] theorem State.replicator_changeFlow (f : FlowState) : (s.changeFlow f).replicator = s.replicator := rfl
@[simp] theorem State.profiles_changeFlow (f : FlowState) : (s.changeFlow f).profiles = s.profiles := rfl
@[simp] theorem State.sites_changeFlow (f : FlowState) : (s.changeFlow f).sites = s.sites := rfl
@[simp] theorem State.marks_changeFlow (f : FlowState) : (s.changeFlow f).marks = s.marks := rfl
@[simp] theorem State.pairs_changeFlow (f : FlowState) : (s.changeFlow f).pairs = s.pairs := rfl
@[simp] theorem State.agent_changeFlow (f : FlowState) : (s.changeFlow f).agent = s.agent := rfl
@[simp] theorem State.site_changeFlow (f : FlowState) (i : SiteIx) : (s.changeFlow f).site i = s.site i := rfl
@[simp] theorem State.profile_changeFlow (f : FlowState) (k : ProfileIx) : (s.changeFlow f).profile k = s.profile k := rfl
@[simp] theorem State.queue_changeFlow (f : FlowState) : (s.changeFlow f).report.queue = s.report.queue := rfl
@[simp] theorem State.flow_changeFlow (f : FlowState) : (s.changeFlow f).flow = f := rfl

end Sys2Proof.Machine
end

