-- ==== Sys2Proof/Laws/Ops.lean ====
section
/-! SUPPORT. One lemma for each shared operation, saying once everything that it can do, so that later proofs cite it in place
of unfolding it. Most say which update of one site the operation is. -/
namespace Sys2Proof.Machine

open Sys2Proof.Safety

variable (s t : State) (i : SiteIx)

/-! ### Commands and the clock -/

theorem live_released (h : s.resetPin = .high) (f : State → State) : live s f = .next (f s) := by simp [live, h]

theorem live_held (h : s.resetPin = .low) (f : State → State) : live s f = .next s := by simp [live, h]

theorem live_eq_next (f : State → State) (h : live s f = .next t) : t = s ∨ t = f s := by
  unfold live at h
  split at h <;> simp_all

@[simp] theorem State.site_reach (n : Nat) : (s.reach n).site i = s.site i := rfl
@[simp] theorem State.clock_reach (n : Nat) : (s.reach n).clock = max s.clock n := rfl
@[simp] theorem State.bank_reach (n : Nat) (r : BankRef) : (s.reach n).bank r = s.bank r := rfl
@[simp] theorem State.pairOf_reach (n : Nat) : (s.reach n).pairOf i = s.pairOf i := rfl

/-! ### Bank references -/

theorem State.dropRef_modSite (r : BankRef) (f : Site → Site) :
    (s.modSite i f).dropRef r = (s.dropRef r).modSite i f := rfl

theorem State.dropRefs_modSite (rs : List BankRef) (f : Site → Site) :
    (s.modSite i f).dropRefs rs = (s.dropRefs rs).modSite i f := by
  induction rs generalizing s with
  | nil => rfl
  | cons r rs ih => exact ih (s.dropRef r)

@[simp] theorem State.dropRefs_nil : s.dropRefs [] = s := rfl

theorem State.dropRefs_append (a b : List BankRef) : s.dropRefs (a ++ b) = (s.dropRefs a).dropRefs b := by
  simp [State.dropRefs]

/-- Dropping references touches nothing but the profiles. -/
theorem State.dropRefs_frame (rs : List BankRef) : s.dropRefs rs = { s with profiles := (s.dropRefs rs).profiles } := by
  induction rs generalizing s with
  | nil => rfl
  | cons r rs ih => exact ih (s.dropRef r)

@[simp] theorem State.site_dropRefs (rs : List BankRef) : (s.dropRefs rs).site i = s.site i := by
  rw [State.dropRefs_frame]; rfl
@[simp] theorem State.clock_dropRefs (rs : List BankRef) : (s.dropRefs rs).clock = s.clock := by
  rw [State.dropRefs_frame]

/-- A bank after one reference is dropped. -/
theorem State.bank_dropRef (r q : BankRef) :
    (s.dropRef r).bank q = if q = r then { s.bank r with refCount := (s.bank r).refCount - 1 } else s.bank q := by
  obtain ⟨k, m⟩ := r
  obtain ⟨l, n⟩ := q
  simp only [State.dropRef, State.bank, State.modBank_eq, State.profile_modProfile, BankRef.mk.injEq]
  by_cases h : l = k
  · subst h
    by_cases hb : n = m
    · subst hb; simp
    · simp [hb, Profile.bank_modBank_ne _ hb]
  · simp [h]

/-- A bank after references are dropped: its count less those of the list that name it, all else as it was. -/
theorem State.bank_dropRefs (rs : List BankRef) (q : BankRef) :
    (s.dropRefs rs).bank q = { s.bank q with refCount := (s.bank q).refCount - rs.count q } := by
  induction rs generalizing s with
  | nil => rfl
  | cons r rs ih =>
    refine (ih (s.dropRef r)).trans ?_
    rw [State.bank_dropRef, List.count_cons]
    by_cases h : q = r
    · subst h; simp; omega
    · have : (r == q) = false := by simpa using fun e => h e.symm
      simp [h, this]

@[simp] theorem State.tables_dropRefs (rs : List BankRef) (q : BankRef) :
    ((s.dropRefs rs).bank q).tables = (s.bank q).tables := by
  rw [State.bank_dropRefs]

/-- A bank after a reference is added. -/
theorem State.bank_addRef (r q : BankRef) :
    (s.addRef r).bank q = if q = r then { s.bank r with refCount := (s.bank r).refCount + 1 } else s.bank q := by
  obtain ⟨k, m⟩ := r
  obtain ⟨l, n⟩ := q
  simp only [State.addRef, State.bank, State.modBank_eq, State.profile_modProfile, BankRef.mk.injEq]
  by_cases h : l = k
  · subst h
    by_cases hb : n = m
    · subst hb; simp
    · simp [hb, Profile.bank_modBank_ne _ hb]
  · simp [h]

/-! ### The expander and the link -/

/-- The number of vectors of an ended frame by the frame's age: the model's index of the next vector. -/
theorem State.nextIndex_eq (record : InFlight) (began : Nat) :
    s.nextIndex i record began = vectorsGone (s.site i).head.rate (s.clock - began) record.desc.n := by
  unfold State.nextIndex nextVector vectorsGone
  cases (s.site i).head.rate <;> rfl

/-- The end of a frame: the expander idle, and the frame as it was sent standing as the latest one. -/
theorem State.endFrame_eq (check : CheckSent) : s.endFrame i check = s.modSite i fun x =>
    { x with head := { x.head with expander := .idle, sent := lastSent s i check } } := by
  cases h : (s.site i).head.expander with
  | idle =>
    simp only [State.endFrame, lastSent, h]
    rw [State.modSite_of_id]
    cases hx : s.site i with | mk _ _ c _ _ _ _ _ => cases c; simp_all
  | sending record began => simp only [State.endFrame, lastSent, h, vectorsOf, State.nextIndex_eq]; rfl
  | control kind began => simp only [State.endFrame, lastSent, h]; rfl

/-- A VECTOR_BLOCK frame cut short with its check inverted; any other frame goes on. -/
theorem State.abortBlock_eq : s.abortBlock i = s.modSite i fun x =>
    { x with head := { x.head with expander := blockCut x.head.expander, sent := lastBlock s i } } := by
  unfold State.abortBlock lastBlock
  split
  · rename_i h; rw [State.endFrame_eq]; apply State.modSite_congr; simp [h, blockCut]
  · rename_i h
    rw [State.modSite_of_id]
    have same : blockCut (s.site i).head.expander = (s.site i).head.expander := by
      unfold blockCut
      split <;> simp_all
    cases hx : s.site i with | mk _ _ c _ _ _ _ _ => cases c; simp_all

/-- What was sent depends on the expander, the rate, the clock and the tables alone. -/
theorem lastSent_congr {s t : State} {i : SiteIx} (check : CheckSent)
    (hh : (t.site i).head.expander = (s.site i).head.expander) (hs : (t.site i).head.sent = (s.site i).head.sent)
    (hr : (t.site i).head.rate = (s.site i).head.rate) (hc : t.clock = s.clock)
    (hb : ∀ r : BankRef, (t.bank r).tables = (s.bank r).tables) : lastSent t i check = lastSent s i check := by
  simp only [lastSent, hh, hs, hr, hc, hb]

theorem lastBlock_congr {s t : State} {i : SiteIx}
    (hh : (t.site i).head.expander = (s.site i).head.expander) (hs : (t.site i).head.sent = (s.site i).head.sent)
    (hr : (t.site i).head.rate = (s.site i).head.rate) (hc : t.clock = s.clock)
    (hb : ∀ r : BankRef, (t.bank r).tables = (s.bank r).tables) : lastBlock t i = lastBlock s i := by
  simp only [lastBlock, lastSent_congr .inverted hh hs hr hc hb, hh, hs]

/-- A CUT raised on a control list: the oldest POWER_ON that waits is removed, else the CUT joins the tail (R69). -/
theorem raiseOn_cut (frames : List ControlKind) : raiseOn frames .cut = cutRaised frames := by
  simp [raiseOn, cutRaised]

theorem State.raiseControl_eq (kind : ControlKind) : s.raiseControl i kind = s.modSite i fun x =>
    { x with head := { x.head with controlList := raiseOn x.head.controlList kind } } := rfl

/-- The head link taken down: a frame being sent is cut off, the link is driven down in DOWN, the control list is empty and the
latest current absent. -/
theorem State.linkDown_eq : s.linkDown i = s.modSite i fun x =>
    { x with
      head := { x.head with
        drive := .drivenDown, lock := .down, trainRun := 0, controlList := [], expander := .idle,
        sent := lastSent s i .cutOff }
      supply := { x.supply with latest := none } } := by
  simp [State.linkDown, State.endFrame_eq]

theorem State.linkUp_eq : s.linkUp i = s.modSite i fun x =>
    { x with head := { x.head with drive := .enabled, rate := (s.pairOf i).rate, lock := .down, trainRun := 0 } } := rfl

/-! ### Site states and causes -/

theorem State.enter_eq (st : SiteState) : s.enter i st = s.modSite i fun x =>
    { x with run := { x.run with state := st }, reports := { x.reports with summaryPending := true } } := by
  simp [State.enter]

theorem State.enterTraining_eq : s.enterTraining i = s.modSite i fun x =>
    { x with
      run := { x.run with state := .training, trainingLimit := some (s.clock + Config.trainingLimit) }
      reports := { x.reports with summaryPending := true } } := by
  simp [State.enterTraining, State.enter_eq]

theorem mem_insertCause (c : Cause) (l : List Cause) : c ∈ insertCause c l := by
  induction l with
  | nil => simp [insertCause]
  | cons d ds ih =>
    unfold insertCause
    split
    · simp
    · split <;> simp_all

/-- A cause is recorded, and a change of the record flags the site. -/
theorem State.recordCause_eq (c : Cause) : s.recordCause i c = s.modSite i fun x =>
    { x with
      run := withCause c x.run
      reports := { x.reports with
        summaryPending := x.reports.summaryPending || decide (withCause c x.run ≠ x.run) } } := by
  unfold State.recordCause
  have fresh : ∀ r : RunRecord, r.primary = none → ({ r with primary := some c } : RunRecord) ≠ r := by
    intro r h e
    have := congrArg RunRecord.primary e
    simp [h] at this
  split
  · rename_i h
    simp only [State.modRun_eq, State.flagSite_eq, State.modSite_modSite]
    apply State.modSite_congr
    simp [withCause, h, fresh _ h]
  · rename_i h
    split
    · rename_i h'
      rw [State.modSite_of_id]
      simp [withCause, h, h']
    · rename_i h'
      simp only [State.modRun_eq, State.flagSite_eq, State.modSite_modSite]
      apply State.modSite_congr
      have grown : ({ (s.site i).run with additional := insertCause c (s.site i).run.additional } : RunRecord)
          ≠ (s.site i).run := by
        intro e
        have := congrArg RunRecord.additional e
        simp only at this
        exact h' (this ▸ mem_insertCause _ _)
      simp [withCause, h, h']
      right
      rw [← h]
      exact grown

/-- A flush of the launch queue. -/
theorem State.flush_eq : s.flush i = (s.dropRefs ((s.site i).head.launchQueue.map LaunchEntry.bound)).modSite i fun x =>
    { x with head := { x.head with
      launchQueue := [], flushed := (x.head.flushed + x.head.launchQueue.length) % 2 ^ 48 } } := rfl

/-- The abandonment of every in-flight record. -/
theorem State.abandonRecords_eq :
    s.abandonRecords i = (s.dropRefs ((s.site i).head.inFlight.map InFlight.bound)).modSite i fun x =>
      { x with
        mapper := { x.mapper with abandoned := (x.mapper.abandoned + x.head.inFlight.length) % 2 ^ 48 }
        head := { x.head with inFlight := [] } } := by
  simp [State.abandonRecords, wrap48]
  apply State.modSite_congr
  simp

theorem State.retire_eq : s.retire i = s.modSite i retiredSite := by
  simp [State.retire, State.enter_eq, State.raiseControl_eq, raiseOn_cut]
  rfl

/-- The end of a drain, when there is one to end. -/
theorem State.endDrain_eq : s.endDrain i = s.modSite i fun x =>
    if x.run.state = .draining ∧ x.head.inFlight = [] then retiredSite x else x := by
  unfold State.endDrain
  split
  · rename_i h; rw [State.retire_eq]; apply State.modSite_congr; simp [h]
  · rename_i h; rw [State.modSite_of_id]; simp [h]

/-- The start of a drain, ended at once when nothing is in flight. -/
theorem State.startDrain_eq :
    s.startDrain i = (s.dropRefs ((s.site i).head.launchQueue.map LaunchEntry.bound)).modSite i fun x =>
      let y : Site := { x with
        run := { x.run with state := .draining }
        head := { x.head with
          launchQueue := [], flushed := (x.head.flushed + x.head.launchQueue.length) % 2 ^ 48 }
        reports := { x.reports with summaryPending := true } }
      if x.head.inFlight = [] then retiredSite y else y := by
  simp only [State.startDrain, State.enter_eq, State.flush_eq, State.endDrain_eq, State.dropRefs_modSite,
    State.site_modSite_same, State.modSite_modSite]
  apply State.modSite_congr
  simp

/-- An abandonment, from ACTIVE with the launch queue flushed. -/
theorem State.abandon_eq : s.abandon i = (s.dropRefs (copiesLost (s.site i))).modSite i fun x =>
    abandonedSite { x with head := { x.head with sent := lastBlock s i } } := by
  unfold State.abandon copiesLost
  by_cases h : (s.site i).run.state = .active
  · simp only [h, if_pos, State.flush_eq, State.abortBlock_eq, State.abandonRecords_eq, State.retire_eq,
      State.site_modSite_same, State.site_dropRefs, State.dropRefs_modSite, State.modSite_modSite, State.dropRefs_append]
    apply State.modSite_congr
    simp [abandonedSite, h]
    rw [lastBlock_congr (s := s)] <;> simp
  · simp only [h, if_neg, not_false_eq_true, State.abortBlock_eq, State.abandonRecords_eq, State.retire_eq,
      State.site_modSite_same, State.dropRefs_modSite, State.modSite_modSite, List.nil_append]
    apply State.modSite_congr
    simp [abandonedSite, h]

/-- A cause that leaves the site where it is: neither in test nor draining for it. -/
theorem State.raiseCauseQuiet_recorded (c : Cause)
    (h : (s.site i).run.state.inTest = false ∨ c.kind = .neither
      ∨ ((s.site i).run.state = .draining ∧ c.kind = .draining)) :
    s.raiseCauseQuiet i c = s.recordCause i c := by
  unfold State.raiseCauseQuiet
  revert h
  generalize (s.site i).run.state = st
  generalize c.kind = k
  cases st <;> cases k <;> simp [SiteState.inTest]

/-- A cause of a draining or abandoning kind against a site in ARMED or PRIMED. -/
theorem State.raiseCauseQuiet_before (c : Cause) (hk : c.kind ≠ .neither)
    (h : (s.site i).run.state = .armed ∨ (s.site i).run.state = .primed) :
    s.raiseCauseQuiet i c = s.modSite i fun x => retiredSite { x with run := withCause c x.run } := by
  have : s.raiseCauseQuiet i c = (s.recordCause i c).retire i := by
    unfold State.raiseCauseQuiet
    revert hk
    generalize c.kind = k
    rcases h with h | h <;> rw [h] <;> cases k <;> simp
  rw [this, State.recordCause_eq, State.retire_eq]
  simp [retiredSite]

/-- A cause of an abandoning kind against a site in ACTIVE or DRAINING. -/
theorem State.raiseCauseQuiet_abandoning (c : Cause) (hk : c.kind = .abandoning)
    (h : (s.site i).run.state = .active ∨ (s.site i).run.state = .draining) :
    s.raiseCauseQuiet i c = (s.dropRefs (copiesLost (s.site i))).modSite i fun x =>
      abandonedSite { x with run := withCause c x.run, head := { x.head with sent := lastBlock s i } } := by
  have : s.raiseCauseQuiet i c = (s.recordCause i c).abandon i := by
    unfold State.raiseCauseQuiet
    rcases h with h | h <;> rw [h, hk]
  rw [this, State.recordCause_eq, State.abandon_eq]
  have hstate : ∀ r : RunRecord, (withCause c r).state = r.state := by
    intro r
    unfold withCause
    split
    · rfl
    · split <;> rfl
  simp only [State.site_modSite_same, State.dropRefs_modSite, State.modSite_modSite]
  have : copiesLost { s.site i with
      run := withCause c (s.site i).run
      reports := { (s.site i).reports with
        summaryPending := (s.site i).reports.summaryPending
          || decide (withCause c (s.site i).run ≠ (s.site i).run) } } = copiesLost (s.site i) := by
    simp [copiesLost, hstate]
  rw [this]
  apply State.modSite_congr
  simp [abandonedSite, retiredSite, hstate]
  rw [lastBlock_congr (s := s)] <;> first | rfl | simp

/-- A cause of a draining kind against a site in ACTIVE. -/
theorem State.raiseCauseQuiet_draining (c : Cause) (hk : c.kind = .draining) (h : (s.site i).run.state = .active) :
    s.raiseCauseQuiet i c = (s.recordCause i c).startDrain i := by
  unfold State.raiseCauseQuiet
  rw [h, hk]

/-! ### Site clear, marks, lock -/

theorem State.siteClear_eq : s.siteClear i = s.modSite i Site.clear := rfl

theorem State.scheduleMark_eq (instant width : Nat) : s.scheduleMark i instant width = s.modSite i fun x =>
    { x with marks := { x.marks with
      scheduled := insertMark ⟨instant + x.marks.offset, width⟩ x.marks.scheduled } } := rfl

/-- A reported lock edge flags the site, any other changes nothing. -/
theorem State.lockEdge_eq (edge : LockEdges) : s.lockEdge i edge = s.modSite i fun x =>
    { x with reports := { x.reports with
      summaryPending := x.reports.summaryPending
        || decide (x.config.lockEdges = edge ∨ x.config.lockEdges = .both) } } := by
  unfold State.lockEdge
  split
  · rename_i h; rw [State.flagSite_eq]; apply State.modSite_congr; simp [h]
  · rename_i h; rw [State.modSite_of_id]; simp_all

/-- A gain of FINE lock, which takes a TRAINING site to IDLE. -/
theorem State.gainFine_eq : s.gainFine i = s.modSite i fun x =>
    { x with
      head := { x.head with lock := .fine, trainRun := 0 }
      run := if x.run.state = .training then { x.run with state := .idle, trainingLimit := none } else x.run
      reports := { x.reports with
        summaryPending := x.reports.summaryPending
          || decide (x.run.state = .training ∨ x.config.lockEdges = .gain ∨ x.config.lockEdges = .both) } } := by
  unfold State.gainFine
  by_cases h : (s.site i).run.state = .training
  · simp only [h, if_pos, State.modHead_eq, State.lockEdge_eq, State.modRun_eq, State.enter_eq, State.modSite_modSite]
    apply State.modSite_congr
    simp [h]
  · simp only [h, if_neg, not_false_eq_true, State.modHead_eq, State.lockEdge_eq, State.modSite_modSite]
    apply State.modSite_congr
    simp [h]

/-! ### The Flow Monitor, the Report Queue and requests -/

/-- A reading of the flow state changes at most the flow state, the pending flow frame and the hub's flag. -/
theorem State.readFlow_eq : s.readFlow = s ∨ s.readFlow = s.changeFlow .held ∨ s.readFlow = s.changeFlow .flowing := by
  unfold State.readFlow
  split <;> split <;> simp

theorem State.readFlow_frame : s.readFlow = { s with
    flow := s.readFlow.flow
    trunk := { s.trunk with pendingFlow := s.readFlow.trunk.pendingFlow }
    report := { s.report with hubPending := s.readFlow.report.hubPending } } := by
  rcases s.readFlow_eq with h | h | h <;> rw [h] <;> rfl

@[simp] theorem State.site_readFlow : s.readFlow.site i = s.site i := by
  rw [State.readFlow_frame]; rfl
@[simp] theorem State.profile_readFlow (k : ProfileIx) : s.readFlow.profile k = s.profile k := by
  rw [State.readFlow_frame]; rfl
@[simp] theorem State.queue_readFlow : s.readFlow.report.queue = s.report.queue := by
  rw [State.readFlow_frame]
@[simp] theorem State.clock_readFlow : s.readFlow.clock = s.clock := by
  rw [State.readFlow_frame]
@[simp] theorem State.pending_readFlow : s.readFlow.pending = s.pending := by
  rw [State.readFlow_frame]
@[simp] theorem State.agent_readFlow : s.readFlow.agent = s.agent := by
  rw [State.readFlow_frame]

/-- After a reading the flow state agrees with the levels, provided they do not contradict each other. -/
theorem State.readFlow_agrees : FlowAgrees s.readFlow := by
  unfold State.readFlow
  have queueAt : ∀ (f : FlowState) (n : Nat), (s.changeFlow f).someQueueAtLeast n = s.someQueueAtLeast n := fun _ _ => rfl
  have hold : ∀ f : FlowState, (s.changeFlow f).holdCondition = s.holdCondition := fun _ => rfl
  have rel : ∀ f : FlowState, (s.changeFlow f).releaseCondition = s.releaseCondition := fun _ => rfl
  have apart : s.holdCondition = true → s.releaseCondition = true → False := by
    simp only [State.holdCondition, State.releaseCondition, State.someQueueAtLeast, Bool.or_eq_true, Bool.and_eq_true,
      Bool.not_eq_true', decide_eq_true_eq, List.any_eq_true, List.any_eq_false]
    rintro (h | ⟨j, hj, h1, h2⟩) ⟨hr1, hr2⟩
    · omega
    · exact hr2 j hj ⟨h1, by omega⟩
  split <;> rename_i hf <;> split <;> rename_i hc <;> constructor <;> intro h <;>
    first
    | rfl
    | exact hf
    | exact absurd h hc
    | exact (apart hc h).elim
    | exact (apart h hc).elim

/-- A record admitted: the queue is longer by it, and the flow state is read. -/
theorem State.enqueue_eq (r : Record) : s.enqueue r =
    ({ s with report := { s.report with queue := s.report.queue ++ [⟨r, s.clock⟩] } } : State).readFlow := rfl

@[simp] theorem State.queue_enqueue (r : Record) : (s.enqueue r).report.queue = s.report.queue ++ [⟨r, s.clock⟩] := by
  rw [State.enqueue_eq, State.queue_readFlow]
@[simp] theorem State.site_enqueue (r : Record) : (s.enqueue r).site i = s.site i := by
  rw [State.enqueue_eq, State.site_readFlow]; rfl
@[simp] theorem State.profile_enqueue (r : Record) (k : ProfileIx) : (s.enqueue r).profile k = s.profile k := by
  rw [State.enqueue_eq, State.profile_readFlow]; rfl
@[simp] theorem State.clock_enqueue (r : Record) : (s.enqueue r).clock = s.clock := by
  rw [State.enqueue_eq, State.clock_readFlow]
@[simp] theorem State.pending_enqueue (r : Record) : (s.enqueue r).pending = s.pending := by
  rw [State.enqueue_eq, State.pending_readFlow]

/-- The oldest request of the intake is taken when it is of the kind asked for. -/
theorem State.takeRequest_asked {kind : Byte} {r : CtrlRequest} {rest : List CtrlRequest} (h : Asked s kind r rest)
    (effect : CtrlRequest → State → Answer) :
    s.takeRequest kind effect = (effect r (intakeLeft s rest)).after.respond r (effect r (intakeLeft s rest)).code
      (effect r (intakeLeft s rest)).data := by
  simp [State.takeRequest, State.oldestRequest, h.2.1, h.2.2, intakeLeft]

/-- With no request, or one of another kind, nothing is taken. -/
theorem State.takeRequest_none {kind : Byte} (h : ∀ r ∈ s.agent.intake.head?, r.kind ≠ kind)
    (effect : CtrlRequest → State → Answer) : s.takeRequest kind effect = s := by
  unfold State.takeRequest State.oldestRequest
  cases hi : s.agent.intake with
  | nil => rfl
  | cons r rest =>
    have : r.kind ≠ kind := h r (by simp [hi])
    simp [this]

/-- A frame other than TRAIN from a head, by the drive and the lock of the link. -/
theorem State.fromHead_eq (take : State → State) : s.fromHead i take =
    if (s.site i).head.drive = .enabled ∧ (s.site i).head.lock = .fine then take s
    else if (s.site i).head.drive = .enabled ∧ (s.site i).head.lock = .coarse then
      s.modSite i fun x => { x with head := { x.head with trainRun := 0 } }
    else s := by
  unfold State.fromHead State.coarseFrame
  cases (s.site i).head.drive <;> cases (s.site i).head.lock <;> simp

/-! ### Trunk training and received numbers -/

/-- What is received in parts is counted part by part. -/
theorem alignedRun_append (n : Nat) (a b : List AlignmentEvent) : alignedRun n (a ++ b) = alignedRun (alignedRun n a) b := by
  simp [alignedRun]

/-- Error-free sequences in a row add to the count. -/
theorem alignedRun_replicate (n k : Nat) : alignedRun n (List.replicate k .errorFree) = n + k := by
  induction k generalizing n with
  | zero => rfl
  | succ k ih => exact (ih (n + 1)).trans (by omega)

/-- After an error the count is that of what follows it alone. -/
theorem alignedRun_error (n : Nat) (a b : List AlignmentEvent) : alignedRun n (a ++ .error :: b) = alignedRun 0 b := by
  rw [alignedRun_append]; rfl

/-- A vector index lies in 0..63. -/
theorem vectorIndex_lt (e : FailEntry) : vectorIndex e < 64 := Nat.mod_lt _ (by decide)

/-! ### Line marks and regions -/

/-- A mark put into a list goes behind the marks due no later, whatever the list (R123). -/
theorem insertMark_eq (m : LineMark) (marks : List LineMark) : insertMark m marks = markAdded m marks := by
  induction marks with
  | nil => rfl
  | cons x xs ih =>
    unfold markAdded at ih ⊢
    by_cases h : m.due < x.due
    · simp [insertMark, h, Nat.not_le.mpr h]
    · simp [insertMark, h, Nat.not_lt.mp h, ih]

/-- The model's and the statements' UNREPAIRABLE region are the same (R117). -/
theorem Region.condemn_eq (g : Region) : g.condemn = condemned g := rfl

end Sys2Proof.Machine
end

