-- ==== Sys2Proof/Tests/Slice0.lean ====
section
/-! SUPPORT. Tests of the model. The expected values come from the manual's worked sequences and tables, named at each test,
or are worked out by hand from its rules; the frame checks were computed by a separate program from R193. After the tests stand
the witnesses: for every statement that has hypotheses, states and operands that meet them, clause by clause. -/
namespace Sys2Proof.Tests

open Sys2Proof.Machine Sys2Proof.Safety

set_option maxRecDepth 20000

/-! ### Small states -/

/-- The state a command leaves. -/
def after (c : Instr) (s : State) : State :=
  match exec c s with
  | .next t => t
  | _ => s

/-- The contents of the bank of the worked expansion (2.9). -/
def worked : Tables :=
  { Tables.zeroed with
    geometry := ⟨8, 4, 4, 2, 2⟩
    map := Vector.ofFn fun k : Fin 26 =>
      if k.val < 12 then ⟨k.val, decide (k.val = 3), if k.val = 4 then some 5 else none⟩ else ⟨0, false, none⟩
    pinOrder := #v[1, 0, 3, 2, 0, 0, 0, 0, 0, 0, 0, 0, 0, 0, 0, 0]
    rm := 1 }

/-- A hub in READY with its trunk link UP; profile 0 has A active and VALID with the worked contents. -/
def hubUp : State :=
  { State.reset with
    hub := .ready, selfTest := none, trunk := { TrunkPort.reset with link := .up }
    profiles := State.reset.profiles.set 0 ⟨.a, false, ⟨true, 0, worked⟩, Bank.reset worked⟩ }

/-- A site of profile 0 in a state, its link in FINE lock, its regions laid out. -/
def siteIn (st : SiteState) : Site :=
  { Site.reset with
    config := { SiteConfig.reset with mode := .profile 0 }
    run := { RunRecord.reset with state := st, joinGeometry := some worked.geometry }
    head := { HeadPort.reset with drive := .enabled, lock := .fine }
    regions := Vector.replicate 16 { Region.reset with srRem := 2, scRem := 2 } }

/-- The hub with site 2 as given. -/
def with2 (x : Site) : State := hubUp.modSite 2 fun _ => x

/-- The hub with site 2 in a state. -/
def hub2 (st : SiteState) : State := with2 (siteIn st)

/-- A request of a kind as the oldest of the intake. -/
def asked (kind : Byte) (body : List Byte) (s : State) : State :=
  { s with agent := { s.agent with intake := [⟨7, kind, body⟩], outstanding := 1 } }

/-- The response code and data of the newest record in the Report Queue. -/
def answer (s : State) : Option (RespCode × Option (List Item)) :=
  match s.report.queue.getLast? with
  | some ⟨.response r, _⟩ => some (r.code, r.data)
  | _ => none

/-- The BURST frame of the worked expansion (2.9), with its op. -/
def workedBurst (op : Byte) : BurstFrame := ⟨40, op, 18, 14, 4, 1, 1, 1, 5⟩

/-- The descriptor of the worked expansion (2.9) as READ_COMPARE. -/
def workedDesc : Descriptor := ⟨40, .readCompare, 18, 14, 4, .colFast, .up, .solid, 5⟩

/-- An in-flight record with a tag, bound to the active bank of profile 0. -/
def flying (tag : Half) : InFlight := ⟨{ workedDesc with tag := tag }, ⟨0, .a⟩, 1000⟩

/-- A launch-queue entry with a tag. -/
def waiting (tag : Half) : LaunchEntry := ⟨{ workedDesc with tag := tag }, ⟨0, .a⟩⟩

/-- A site in a state with a launch queue and an in-flight list. -/
def holding (st : SiteState) (queue : List LaunchEntry) (records : List InFlight) : Site :=
  { siteIn st with head := { (siteIn st).head with launchQueue := queue, inFlight := records } }

/-! ### Well-formed commands -/

/-- A CTRL body of 1022 bytes overfills the 1024-byte payload (R195). -/
theorem test_wf_refuses_long_ctrl : (Instr.ctrl ⟨7, 2, List.replicate 1022 0⟩).wf = false := by
  simp [Instr.wf, CtrlRequest.wf]

/-- A CTRL body of 1021 bytes just fits. -/
theorem test_wf_takes_full_ctrl : (Instr.ctrl ⟨7, 2, List.replicate 1021 0⟩).wf = true := by
  simp [Instr.wf, CtrlRequest.wf]

/-- A RESULT list of 65 entries overfills the 196-byte payload (R198). -/
theorem test_wf_refuses_long_result : (Instr.result 0 (some ⟨40, 1, List.replicate 65 ⟨0, 1⟩⟩)).wf = false := by
  simp [Instr.wf, ResultFrame.wf]

/-- A RESULT list of 64 entries just fits. -/
theorem test_wf_takes_full_result : (Instr.result 0 (some ⟨40, 1, List.replicate 64 ⟨0, 1⟩⟩)).wf = true := by
  simp [Instr.wf, ResultFrame.wf]

/-! ### Frames written out byte by byte -/

theorem test_decode_burst : decodeTrunkFrame false
    [0x01, 0x00, 0x0D, 0x00, 0x28, 0x02, 0x00, 0x12, 0x00, 0x0E, 0x04, 0x01, 0x01, 0x01, 0x00, 0x05, 0x60, 0xFA]
      = .burst (workedBurst 2) := by decide

theorem test_decode_mark : decodeTrunkFrame false [0x02, 0x00, 0x00, 0xA2, 0xFC] = .mark := by decide

theorem test_decode_beat : decodeTrunkFrame false [0x03, 0x00, 0x00, 0x95, 0xCC] = .beat := by decide

theorem test_decode_ctrl : decodeTrunkFrame false [0x04, 0x00, 0x03, 0x00, 0x07, 0x10, 0x18, 0xCB]
    = .ctrl ⟨7, 16, []⟩ := by decide

/-- One bit of the check wrong (R193, R186). -/
theorem test_decode_bad_check : decodeTrunkFrame false [0x02, 0x00, 0x00, 0xA2, 0xFD] = .trunkFrameCheckFail := by decide

theorem test_decode_in_selftest : decodeTrunkFrame true [0x02, 0x00, 0x00, 0xA2, 0xFC] = .selftestFrameDiscard := by decide

theorem test_decode_result : decodeHeadFrame 3 [0x91, 0x00, 0x07, 0x00, 0x28, 0x01, 0x01, 0x02, 0x00, 0x06, 0xD3, 0xCF]
    = .result 3 (some ⟨40, 1, [⟨2, 6⟩]⟩) := by decide

theorem test_decode_telemetry : decodeHeadFrame 3 [0x92, 0x00, 0x04, 0x03, 0xE8, 0x01, 0xFB, 0x7B, 0xA0]
    = .telemetry 3 (some ⟨1000, 1, 0xFB⟩) := by decide

theorem test_decode_train : decodeHeadFrame 5 [0x15, 0x00, 0x02, 0x05, 0x01, 0xB7, 0xB5]
    = .trainFrameReceived 5 (some ⟨5, 1⟩) := by decide

/-- A HOLD frame as the hub sends it (R195). -/
theorem test_flow_frame_bytes : (UpFrame.flow .hold).bytes = [0x82, 0x00, 0x01, 0x01, 0x97, 0x80] := by decide

/-- No row of the table gives bits. -/
theorem test_no_word_decodes : decodeTableWord 16 0 = none := rfl

/-! ### Expansion and screening: the worked cases -/

/-- 2.9, as READ_COMPARE. -/
theorem test_worked_expansion : vectorsOf worked workedDesc 4 =
    [⟨.readCompare, 19, 6, 5⟩, ⟨.readCompare, 19, 7, 5⟩, ⟨.readCompare, 18, 8, 10⟩, ⟨.readCompare, 18, 9, 10⟩] := by decide

/-- 2.10, ROW_FAST. -/
theorem test_worked_row_fast : vectorsOf worked { workedDesc with order := .rowFast } 4 =
    [⟨.readCompare, 19, 6, 5⟩, ⟨.readCompare, 18, 6, 10⟩, ⟨.readCompare, 20, 6, 10⟩, ⟨.readCompare, 21, 6, 5⟩] := by decide

/-- 2.10, DOWN with wrap. -/
theorem test_worked_down : vectorsOf worked { workedDesc with r0 := 0, c0 := 1, direction := .down } 4 =
    [⟨.readCompare, 0, 9, 10⟩, ⟨.readCompare, 0, 8, 10⟩, ⟨.readCompare, 254, 7, 10⟩, ⟨.readCompare, 254, 6, 10⟩] := by decide

/-- 2.10, ALTERNATE. -/
theorem test_worked_alternate : (vectorsOf worked { workedDesc with dataMode := .alternate } 4).map PatternVector.pins
    = [5, 10, 10, 5] := by decide

/-- 1.9: the worked bank passes validation; with entry 4 written {4,0,4} it fails with MAP_PARTNER at 4. -/
theorem test_worked_validation : worked.validate = none
    ∧ ({ worked with map := worked.map.set 4 ⟨4, false, some 4⟩ } : Tables).validate = some (.mapPartner, 4) := by decide

/-- 6.8: the region after the ten events. -/
theorem test_worked_screen :
    ([(5, 10), (5, 20), (5, 30), (7, 40), (9, 40), (7, 50), (5, 60), (8, 60), (9, 70), (7, 50)] : List (Nat × Nat)).foldl
      (fun g e => g.takeEvent e.1 e.2) ({ Region.reset with srRem := 2, scRem := 2 } : Region)
    = ⟨.unrepairable, 1, 1, [5], [40], [⟨7, 50, 1⟩, ⟨8, 60, 1⟩, ⟨9, 70, 1⟩], 1, 1, true⟩ := by decide

/-- 6.9: one event uses three spares. -/
theorem test_worked_three_spares :
    (⟨.tracking, 2, 2, [], [], [⟨1, 40, 1⟩, ⟨1, 50, 1⟩, ⟨2, 10, 1⟩, ⟨3, 10, 1⟩, ⟨4, 20, 1⟩, ⟨4, 30, 1⟩], 0, 0, false⟩
      : Region).takeEvent 1 60 = ⟨.tracking, 0, 1, [1, 4], [10], [], 0, 0, true⟩ := by decide

/-- 7.8 and 7.9: loop updates in ACTUAL, at the end of the range, and in ONE_STEP. -/
theorem test_worked_alignment :
    loopStep 3 .actual 10 200 0 = (193, 2, false) ∧ loopStep 3 .actual (-5) 191 0 = (194, -3, false)
    ∧ loopStep 4 .actual 20 3 0 = (0, 0, true) ∧ loopStep 2 .oneStep (-90) 99 (-2) = (100, 0, false) := by decide

/-! ### Resets, the trunk link and the heartbeat -/

/-- R190, R191: power-on leaves SELFTEST with a 40 ms self-test, in ticks of 4 ns, and the trunk link DOWN. -/
theorem test_power_on : (after .powerOnReset hubUp).hub = .selftest
    ∧ (after .powerOnReset hubUp).selfTest = some ⟨false, 10000000⟩ ∧ (after .powerOnReset hubUp).trunk.link = .down := by
  decide

/-- R190: while the pin is held nothing reaches a block, and its release starts the self-test. -/
theorem test_reset_pin : (after .trunkTrainingStart (after .resetPin hubUp)).trunk.link = .down
    ∧ (after .resetPin hubUp).selfTest = none
    ∧ (after .resetPinRelease (after .resetPin hubUp)).selfTest = some ⟨false, 10000000⟩ := by decide

/-- R191: four DIAG records in group order, FAIL when a group failed, READY. -/
theorem test_selftest_end :
    ((after (.selftestEnd ⟨true, true, false, true⟩) State.reset).report.queue.map QueuedRecord.record)
      = [.diag .profile .pass, .diag .queues .pass, .diag .regions .fail, .diag .report .pass]
    ∧ (after (.selftestEnd ⟨true, true, false, true⟩) State.reset).outcome = .fail
    ∧ (after (.selftestEnd ⟨true, true, false, true⟩) State.reset).hub = .ready := by decide

/-- A run of error-free alignment sequences. -/
def aligned (n : Nat) : List AlignmentEvent := List.replicate n .errorFree

/-- R184: 16 sequences with an error among them are too few, 16 in a row bring the link UP, the hub's own end-of-training
sequence sent and a flow frame pending (R59). -/
theorem test_trunk_link_up :
    (after (.trunkLinkUp (aligned 8 ++ .error :: aligned 8)) (after .trunkTrainingStart State.reset)).trunk.sequences = 8
    ∧ (after (.trunkLinkUp (aligned 15)) (after .trunkTrainingStart State.reset)).trunk.link = .training
    ∧ (after (.trunkLinkUp (aligned 16)) (after .trunkTrainingStart State.reset)).trunk.link = .up
    ∧ (after (.trunkLinkUp (aligned 16)) (after .trunkTrainingStart State.reset)).trunk.output = .endOfTraining
    ∧ (after (.trunkLinkUp (aligned 16)) (after .trunkTrainingStart State.reset)).trunk.pendingFlow = some .release := by
  decide

/-- A hub sending a report frame, with a beat limit of 50 µs and a BEAT taken at time 0. -/
def sending : State :=
  { hubUp with
    beat := ⟨5, some 0, true⟩
    trunk := { hubUp.trunk with upstream := .report [.diag .all .skipped] false } }

/-- R185, R168, R188 (11.4): a loss of the link counts, interrupts the report frame and is an expiry. -/
theorem test_trunk_loss : (after .trunkSymbolLockLoss sending).trunk.link = .down
    ∧ (after .trunkSymbolLockLoss sending).trunk.linkLoss = 1
    ∧ (after .trunkSymbolLockLoss sending).trunk.interrupted = some [.diag .all .skipped]
    ∧ (after .trunkSymbolLockLoss sending).hub = .holdover := by decide

/-- R185: a mainframe restart returns the link to TRAINING as a loss. -/
theorem test_mainframe_restart : (after .mainframeRestart sending).trunk.link = .training
    ∧ (after .mainframeRestart sending).trunk.linkLoss = 1 := by decide

/-- R186: counts of the frames discarded. -/
theorem test_trunk_discards : (after .trunkFrameCheckFail hubUp).trunk.frameCheck = 1
    ∧ (after .trunkUnknownKind hubUp).trunk.unknownKind = 1
    ∧ (after .selftestFrameDiscard hubUp).trunk = hubUp.trunk := by decide

/-- 11.4: a BEAT at time 70 µs restarts the counter; without it the expiry comes at 50 µs, 12500 ticks. -/
theorem test_beat : (after .beat { sending with clock := 17500 }).beat.counter = some 17500
    ∧ (after .beatExpiry sending).clock = 12500 ∧ (after .beatExpiry sending).hub = .holdover := by decide

/-- 10.6, step 5: the fifth request is discarded, counted and flagged. -/
theorem test_ctrl_overflow :
    (after (.ctrl ⟨15, 14, []⟩) { hubUp with agent := ⟨[⟨12, 7, []⟩], 4, 0, false⟩ }).agent
      = ⟨[⟨12, 7, []⟩], 4, 1, true⟩
    ∧ (after (.ctrl ⟨14, 9, []⟩) { hubUp with agent := ⟨[⟨12, 7, []⟩], 3, 0, false⟩ }).agent
      = ⟨[⟨12, 7, []⟩, ⟨14, 9, []⟩], 4, 0, false⟩ := by decide

/-- R190, R191, R23: a HUB_RESET that skips the self-test keeps the link and the bank contents, and takes 2 ms. -/
theorem test_hub_reset : (after .hubReset (asked 1 [1, 1] hubUp)).trunk.link = .up
    ∧ (after .hubReset (asked 1 [1, 1] hubUp)).selfTest = some ⟨true, 500000⟩
    ∧ ((after .hubReset (asked 1 [1, 1] hubUp)).profile 0).bankA = ⟨false, 0, worked⟩ := by decide

/-! ### Bursts and marks -/

/-- 2.10: with the last tag at 41, n = 65 is rejected and leaves it; tag 44 is a gap. -/
theorem test_burst_checks :
    (after (.burst { workedBurst 1 with tag := 43, n := 65 }) { hubUp with sorter := ⟨some 41, 1, 0⟩ }).sorter
      = ⟨some 41, 2, 0⟩
    ∧ (after (.burst { workedBurst 1 with tag := 44 }) { hubUp with sorter := ⟨some 41, 2, 0⟩ }).sorter
      = ⟨some 44, 2, 1⟩ := by decide

/-- 4.10, step 11: an ACTIVE site takes a copy, bound to the active bank, which gains a reference. -/
theorem test_burst_copies : ((after (.burst (workedBurst 2)) (hub2 .active)).site 2).head.launchQueue = [waiting 40]
    ∧ ((after (.burst (workedBurst 2)) (hub2 .active)).site 2).head.copied = 1
    ∧ ((after (.burst (workedBurst 2)) (hub2 .active)).profile 0).bankA.refCount = 1 := by decide

/-- 1.9, step 7, and 7.11, mark point 2: the swap is performed; an ARMED site enters PRIMED with an ARMING mark of 32 ticks. -/
theorem test_mark_point :
    ((after .mark { hub2 .armed with profiles := hubUp.profiles.set 1 ⟨.a, true, Bank.reset worked, ⟨true, 0, worked⟩⟩ }).profile
      1).active = .b
    ∧ ((after .mark (hub2 .armed)).site 2).run.state = .primed
    ∧ ((after .mark (hub2 .armed)).site 2).marks.scheduled = [⟨0, 32⟩] := by decide

/-- R124: a frame mark is taken with the trunk link down; none is in SELFTEST (R191). -/
theorem test_mark_link_down : (after .mark { hubUp with trunk := TrunkPort.reset }).replicator.frameMarks = 1
    ∧ (after .mark { hubUp with hub := .selftest }).replicator.frameMarks = 0 := by decide

/-- A hub of 7.10 at its second frame mark: MULTIPLY 4, site 2 ACTIVE with offset 100, 10000 ticks after the first mark. -/
def multiplying : State :=
  { with2 { siteIn .active with marks := ⟨100, 0, [], .low⟩ } with
    clock := 10000
    marks := { MarkUnit.reset with setting := ⟨.multiply, 4⟩, lastFrameMark := some 0 } }

/-- 7.10, frame mark 2 and its first later point. -/
theorem test_multiply : (after .mark multiplying).marks.series = some ⟨1, 4, 2500⟩
    ∧ ((after .mark multiplying).site 2).marks.scheduled = [⟨10100, 8⟩]
    ∧ ((after .seriesPoint (after .mark multiplying)).site 2).marks.scheduled = [⟨10100, 8⟩, ⟨12600, 8⟩] := by decide

/-- R131: overlapping marks make one pulse, high to the later end; MON's pulse is 8 ticks (R139). -/
theorem test_line_pulse :
    ((after (.lineMarkDue 2) (with2 { siteIn .active with marks := ⟨0, 0, [⟨104, 8⟩], .high 108⟩ })).site 2).marks.line
      = .high 112
    ∧ ((after (.linePulseEnd 2) (with2 { siteIn .active with marks := ⟨0, 0, [], .high 112⟩ })).site 2).marks.line = .low
    ∧ (after .mark multiplying).marks.monPulse = some 10008
    ∧ (after .monPulseEnd (after .mark multiplying)).marks.monPulse = none := by decide

/-! ### Requests -/

/-- R181: GET_HUB SETTINGS on a hub at its reset settings. -/
theorem test_get_hub : answer (after .getHub (asked 2 [1, 3] hubUp)) = some (.ok, some
    [[⟨1, 1⟩, ⟨1, 2⟩], [], [], [⟨1, 0⟩], [⟨1, 1⟩, ⟨1, 0⟩], [⟨2, 1⟩], [⟨2, 0⟩]]) := by decide

/-- 10.7, requests 5 and 6. -/
theorem test_set_hub : (after .setHub (asked 3 [0, 2, 0, 40, 2, 3, 1, 0] hubUp)).beat.limit = 15
    ∧ (after .setHub (asked 3 [0, 2, 0, 40, 2, 3, 1, 0] hubUp)).marks.pendingSetting = some ⟨.multiply, 2⟩
    ∧ answer (after .setHub (asked 3 [2, 0, 3, 0, 0, 2, 3, 8] hubUp)) = some (.badRequest, none) := by decide

/-- 1.9, steps 1 and 6: a write to the standby bank, and its refusal while a swap is pending. -/
theorem test_write_profile :
    ((after .writeProfile (asked 4 [2, 0, 1, 1, 1, 2, 0, 8, 2, 0, 4, 2, 0, 4, 2, 0, 2, 2, 0, 2] hubUp)).profile 1).bankB
      = ⟨false, 0, { Tables.zeroed with geometry := ⟨8, 4, 4, 2, 2⟩ }⟩
    ∧ answer (after .writeProfile (asked 4 [2, 0, 0, 1, 1, 2, 0, 8, 2, 0, 4, 2, 0, 4, 2, 0, 2, 2, 0, 2]
        (hubUp.modProfile 0 fun p => { p with pendingSwap := true }))) = some (.swapPending, none) := by decide

/-- R13: map entries 3 and 4 of the worked bank; FFH is an absent partner (R195). -/
theorem test_read_profile : answer (after .readProfile (asked 5 [2, 0, 0, 1, 1, 1, 2, 2, 0, 3, 2, 0, 2] hubUp))
    = some (.ok, some [[⟨1, 3⟩, ⟨1, 1⟩, ⟨1, 255⟩], [⟨1, 4⟩, ⟨1, 0⟩, ⟨1, 5⟩]]) := by decide

/-- 1.9, step 5: the standby bank passes and the swap is pending; a zeroed bank fails with GEOMETRY_RANGE (R7, R16). -/
theorem test_swap_profile : ((after .swapProfile (asked 6 [2, 0, 0] hubUp)).profile 0).pendingSwap = true
    ∧ ((after .swapProfile (asked 6 [2, 0, 0] hubUp)).profile 0).bankB.valid = true
    ∧ answer (after .swapProfile (asked 6 [2, 0, 1] hubUp)) = some (.mapInvalid, some [[⟨1, 1⟩, ⟨1, 0⟩]]) := by decide

/-- 4.10, step 1: a profile takes a DISABLED site to TRAINING with 20 ms. -/
theorem test_set_site_mode :
    ((after .setSite (asked 7 [2, 0, 5, 2, 2, 1, 0, 0, 0, 0, 0, 0, 0] hubUp)).site 5).run.state = .training
    ∧ ((after .setSite (asked 7 [2, 0, 5, 2, 2, 1, 0, 0, 0, 0, 0, 0, 0] hubUp)).site 5).run.trainingLimit = some 5000000
    ∧ ((after .setSite (asked 7 [2, 0, 5, 2, 2, 1, 0, 0, 0, 0, 0, 0, 0] hubUp)).site 5).head.drive = .enabled := by decide

/-- 10.7, request 1: gain 7, offset 5000 and FIRST with limit 0 are clamped. -/
theorem test_set_site_clamps :
    ((after .setSite (asked 7 [2, 0, 2, 0, 0, 3, 2, 0, 0, 0, 0, 1, 7, 0, 2, 0x13, 0x88] (hub2 .active))).site 2).config
      = { (siteIn .active).config with failLimit := 1, gain := 4, initialOffset := 4095 }
    ∧ ((after .setSite (asked 7 [2, 0, 2, 0, 0, 3, 2, 0, 0, 0, 0, 1, 7, 0, 2, 0x13, 0x88] (hub2 .active))).site 2).marks.offset
      = 4095 := by decide

/-- R180: a request that takes a site from DISABLED to TRAINING and carries an offset leaves both the configured initial offset
and O at the applied value. -/
theorem test_set_site_mode_and_offset :
    ((after .setSite (asked 7 [2, 0, 5, 2, 2, 1, 0, 0, 0, 0, 0, 0, 2, 0, 100] hubUp)).site 5).run.state = .training
    ∧ ((after .setSite (asked 7 [2, 0, 5, 2, 2, 1, 0, 0, 0, 0, 0, 0, 2, 0, 100] hubUp)).site 5).config.initialOffset = 100
    ∧ ((after .setSite (asked 7 [2, 0, 5, 2, 2, 1, 0, 0, 0, 0, 0, 0, 2, 0, 100] hubUp)).site 5).marks.offset = 100 := by
  decide

/-- A body that sets the retire option of site 2 alone. -/
def retireBody : List Byte := [2, 0, 2, 0, 1, 1, 0, 0, 0, 0, 0, 0]

/-- R78: the cause joins the additional set of a site that drains for another one, and leaves the record of a site that drains
for it unchanged. -/
theorem test_set_retire_option_again :
    ((after .setSite (asked 7 retireBody ((hub2 .draining).modRun 2 fun r =>
        { r with unrepairable := true, primary := some .requested }))).site 2).run.additional = [.unrepairable]
    ∧ ((after .setSite (asked 7 retireBody ((hub2 .draining).modRun 2 fun r =>
        { r with unrepairable := true, primary := some .unrepairable }))).site 2).run.additional = [] := by decide

/-- R147, R148: 5000 mA and 0 samples are clamped; a change of rate class with a site in use is refused. -/
theorem test_set_pair : (after .setPair (asked 8 [2, 0, 1, 2, 0x13, 0x88, 2, 0, 0, 0, 0] hubUp)).pairs[1]
      = ⟨4095, 1, 20, .full⟩
    ∧ answer (after .setPair (asked 8 [2, 0, 1, 0, 0, 0, 1, 2] (hub2 .idle))) = some (.badState, none) := by decide

/-- 4.10, step 7: JOIN_SITE raises POWER_ON and lays out the regions; in ARMED it is refused. -/
theorem test_join_site : ((after .joinSite (asked 9 [2, 0, 2] (hub2 .idle))).site 2).run.state = .armed
    ∧ ((after .joinSite (asked 9 [2, 0, 2] (hub2 .idle))).site 2).head.controlList = [.powerOn]
    ∧ answer (after .joinSite (asked 9 [2, 0, 2] (hub2 .armed))) = some (.badState, none) := by decide

/-- The site of 4.11 at its start. -/
def retiring : Site := holding .active [waiting 50, waiting 51, waiting 52] [flying 48, flying 49]

/-- 4.11, step 1. -/
theorem test_retire_site : ((after .retireSite (asked 10 [2, 0, 2] (with2 retiring))).site 2).run.state = .draining
    ∧ ((after .retireSite (asked 10 [2, 0, 2] (with2 retiring))).site 2).run.primary = some .requested
    ∧ ((after .retireSite (asked 10 [2, 0, 2] (with2 retiring))).site 2).head.flushed = 3 := by decide

/-- 4.11, step 7, and R80 without FINE lock. -/
theorem test_clear_site : ((after .clearSite (asked 11 [2, 0, 2] (hub2 .retired))).site 2).run.state = .idle
    ∧ answer (after .clearSite (asked 11 [2, 0, 2] ((hub2 .retired).modHead 2 fun h => { h with lock := .down })))
      = some (.ok, some [[⟨1, 2⟩]]) := by decide

/-- 8.6, step 10; and R81 without FINE lock. -/
theorem test_release_site : ((after .releaseSite (asked 12 [2, 0, 2] (hub2 .retired))).site 2).head.controlList = [.release]
    ∧ ((after .releaseSite (asked 12 [2, 0, 2] ((hub2 .retired).modHead 2 fun h => { h with lock := .coarse }))).site
      2).head.drive = .drivenDown := by decide

/-- R182: the PATTERN part of the site of 4.11 at its start, its counts being 0. -/
theorem test_read_site : answer (after .readSite (asked 13 [2, 0, 2, 1, 2] (with2 retiring))) = some (.ok, some
    [[⟨6, 0⟩], [⟨6, 0⟩], [⟨6, 0⟩], [⟨6, 0⟩], [⟨6, 0⟩], [⟨6, 0⟩], [⟨2, 3⟩], [⟨2, 2⟩]]) := by decide

/-- The hub with the region of 6.8 after its ten events as region 0 of site 2. -/
def screened : State :=
  (hub2 .active).modRegion 2 0 fun _ =>
    ⟨.unrepairable, 1, 1, [5], [40], [⟨7, 50, 1⟩, ⟨8, 60, 1⟩, ⟨9, 70, 1⟩], 1, 1, true⟩

/-- 6.8, READ_REGION. -/
theorem test_read_region : answer (after .readRegion (asked 14 [2, 0, 2, 2, 0, 0] screened)) = some (.ok, some
    [[⟨1, 3⟩], [⟨2, 1⟩], [⟨2, 1⟩], [⟨2, 5⟩], [⟨2, 40⟩], [⟨2, 3⟩], [⟨4, 1⟩], [⟨4, 1⟩]]) := by decide

/-- 6.8, READ_CELLS from 0 and from 3; the high byte of the start index is ignored (R194). -/
theorem test_read_cells : answer (after .readCells (asked 15 [2, 0, 2, 2, 0, 0, 2, 0, 0] screened)) = some (.ok, some
      [[⟨2, 7⟩, ⟨2, 50⟩, ⟨2, 1⟩], [⟨2, 8⟩, ⟨2, 60⟩, ⟨2, 1⟩], [⟨2, 9⟩, ⟨2, 70⟩, ⟨2, 1⟩]])
    ∧ answer (after .readCells (asked 15 [2, 0, 2, 2, 0, 0, 2, 0, 3] screened)) = some (.ok, some [])
    ∧ answer (after .readCells (asked 15 [2, 0, 2, 2, 0, 0, 2, 1, 2] screened))
      = some (.ok, some [[⟨2, 9⟩, ⟨2, 70⟩, ⟨2, 1⟩]]) := by decide

/-- 11.4: RESUME before and after a BEAT in HOLDOVER. -/
theorem test_resume :
    answer (after .resume (asked 16 [] { hubUp with hub := .holdover, beat := ⟨5, none, false⟩ })) = some (.badState, none)
    ∧ (after .resume (asked 16 [] { hubUp with hub := .holdover, beat := ⟨5, some 0, true⟩ })).hub = .ready := by decide

/-- R177: kind code 11H names no kind. -/
theorem test_unknown_request : answer (after .unknownRequestKind (asked 17 [] hubUp)) = some (.badRequest, none) := by decide

/-! ### Reporting and the upstream link -/

/-- A hub with a number of REGION records waiting since time 0, and a timer setting. -/
def reporting (records : Nat) (timer : Nat) : State :=
  { hubUp with report := { hubUp.report with
      timerSetting := timer
      queue := List.replicate records ⟨.region ((Region.reset).record 0 0), 0⟩ } }

/-- R166, R167: with T = 0 fifteen records wait, and of seventeen one frame takes sixteen. -/
theorem test_report_frame_build : (after .reportFrameBuild (reporting 15 0)).report.queue.length = 15
    ∧ (after .reportFrameBuild (reporting 17 0)).report.queue.length = 1 := by decide

/-- R168: a frame sent leaves the link free; the interrupted frame is released when its resend completes. -/
theorem test_report_frame_sent : (after .reportFrameSent sending).trunk.upstream = .free
    ∧ (after .interruptedReportResend { hubUp with trunk := { hubUp.trunk with interrupted := some [.diag .all .pass] } }).trunk.upstream
      = .report [.diag .all .pass] true
    ∧ (after .reportFrameSent { hubUp with trunk := { hubUp.trunk with
        interrupted := some [.diag .all .pass], upstream := .report [.diag .all .pass] true } }).trunk.interrupted = none := by
  decide

/-- R59: the pending flow frame goes, and its end frees the link. -/
theorem test_flow_frame : (after .flowFrameSend { hubUp with trunk := { hubUp.trunk with pendingFlow := some .hold } }).trunk.upstream
      = .flow .hold
    ∧ (after .flowFrameEnd { hubUp with trunk := { hubUp.trunk with upstream := .flow .hold } }).trunk.upstream = .free := by
  decide

/-- 9.7: with T = 5 the oldest record of time 0 is due at 50 µs, 12500 ticks. -/
theorem test_coalescing : (reporting 2 5).timerCondition = false
    ∧ (after .coalescingTimerExpiry (reporting 2 5)).clock = 12500
    ∧ (after .coalescingTimerExpiry (reporting 2 5)).timerCondition = true := by decide

/-- R164: the hub's flag comes before a site's. -/
theorem test_summary_record :
    ((after .summaryRecord ((hub2 .active).flagSite 2).flagHub).report.queue.map QueuedRecord.record)
      = [.hub ⟨.ready, .flowing, false, .pass⟩]
    ∧ ((after .summaryRecord ((hub2 .active).flagSite 2).flagHub).site 2).reports.summaryPending = true := by decide

/-! ### Head links -/

/-- 3.7, step 6: the oldest entry is launched; its deadline is 5.0 ms later, 1250000 ticks. -/
theorem test_launch : ((after (.launch 2) (with2 (holding .active [waiting 203, waiting 204] []))).site 2).head.launchQueue
      = [waiting 204]
    ∧ ((after (.launch 2) (with2 (holding .active [waiting 203, waiting 204] []))).site 2).head.inFlight
      = [{ flying 203 with deadline := 1250000 }] := by decide

/-- A site whose expander sends its newest record. -/
def expanding (st : SiteState) (queue : List LaunchEntry) (older : List InFlight) : Site :=
  { holding st queue (older ++ [flying 40]) with
    head := { (holding st queue (older ++ [flying 40])).head with expander := .sending (flying 40) 0 } }

/-- 2.9 and R55: the whole frame, five vector times of 1 µs long. -/
theorem test_vector_block_end : ((after (.vectorBlockEnd 2) (with2 (expanding .active [] []))).site 2).head.sent
      = some ⟨.vectorBlock 40 4
          [⟨.readCompare, 19, 6, 5⟩, ⟨.readCompare, 19, 7, 5⟩, ⟨.readCompare, 18, 8, 10⟩, ⟨.readCompare, 18, 9, 10⟩], .good⟩
    ∧ (after (.vectorBlockEnd 2) (with2 (expanding .active [] []))).clock = 1250 := by decide

/-- R69, and 8.6, step 11: the RELEASE frame's end takes the link of a RELEASED site down. -/
theorem test_control_frames :
    ((after (.controlFrameSend 2) ((hub2 .retired).modHead 2 fun h => { h with controlList := [.cut, .release] })).site
      2).head.expander = .control .cut 0
    ∧ ((after (.controlFrameEnd 2) ((hub2 .released).modHead 2 fun h => { h with expander := .control .release 0 })).site
      2).head.drive = .drivenDown := by decide

/-- A link in training: the hub with site 2 in TRAINING and its link in a lock state with a run. -/
def training (lock : LockState) (run : Nat) : State :=
  with2 { siteIn .training with
    run := { RunRecord.reset with state := .training, trainingLimit := some 5000000 }
    head := { HeadPort.reset with drive := .enabled, lock := lock, trainRun := run } }

/-- 8.6, steps 2 and 3, the fourth TRAIN frame with an unused bit of its site number set (R194); a TRAIN frame with another
site's number ends the run (R142). -/
theorem test_training : ((after (.patternRecognised 2) (training .down 0)).site 2).head.lock = .coarse
    ∧ ((after (.trainFrameReceived 2 (some ⟨0x82, 1⟩)) (training .coarse 3)).site 2).run.state = .idle
    ∧ ((after (.trainFrameReceived 2 (some ⟨3, 1⟩)) (training .coarse 3)).site 2).head.trainRun = 0 := by decide

/-- 8.6, step 4: a head restart in IDLE. -/
theorem test_head_restart : ((after (.trainFrameReceived 2 (some ⟨2, 1⟩)) (hub2 .idle)).site 2).run.state = .training
    ∧ ((after (.trainFrameReceived 2 (some ⟨2, 1⟩)) (hub2 .idle)).site 2).head.lock = .coarse
    ∧ ((after (.trainFrameReceived 2 (some ⟨2, 1⟩)) (hub2 .idle)).site 2).head.fineLoss = 1 := by decide

/-- 8.6, step 7, and 4.11, step 4. -/
theorem test_lock_loss : ((after (.headSymbolLockLoss 2) (hub2 .armed)).site 2).run.primary = some .linkLost
    ∧ ((after (.headSymbolLockLoss 2) (hub2 .armed)).site 2).head.controlList = [.cut]
    ∧ ((after (.headSymbolLockLoss 2) ((hub2 .retired).modRun 2 fun r =>
        { r with primary := some .requested, additional := [.overcurrent] })).site 2).run.additional
      = [.overcurrent, .linkLost] := by decide

/-- R146: an unknown kind is counted in FINE, and ends the run in COARSE uncounted. -/
theorem test_unknown_head_frame : ((after (.unknownHeadFrame 2) (hub2 .idle)).site 2).head.unknownFrames = 1
    ∧ ((after (.unknownHeadFrame 2) (training .coarse 3)).site 2).head.trainRun = 0
    ∧ ((after (.unknownHeadFrame 2) (training .coarse 3)).site 2).head.unknownFrames = 0 := by decide

/-- 3.6, after step 6: the deadline of the oldest record retires the DRAINING site with SILENT, its records abandoned. -/
theorem test_deadline : ((after (.deadlineExpiry 2) (with2 (holding .draining [] [flying 100, flying 101]))).site 2).run.state
      = .retired
    ∧ ((after (.deadlineExpiry 2) (with2 (holding .draining [] [flying 100, flying 101]))).site 2).mapper.abandoned = 2 := by
  decide

/-- R66: the limit runs out. -/
theorem test_training_limit : ((after (.trainingLimitExpiry 2) (training .coarse 1)).site 2).run.state = .retired
    ∧ ((after (.trainingLimitExpiry 2) (training .coarse 1)).site 2).run.primary = some .trainFail
    ∧ ((after (.trainingLimitExpiry 2) (training .coarse 1)).site 2).head.controlList = [] := by decide

/-! ### Results and telemetry -/

/-- 5.9: the two cells of the worked mapping. -/
theorem test_result_maps :
    ((after (.result 2 (some ⟨40, 1, [⟨2, 6⟩]⟩)) (with2 (holding .active [] [flying 40]))).site 2).regions[1].cells
      = [⟨2, 33, 1⟩, ⟨2, 34, 1⟩]
    ∧ ((after (.result 2 (some ⟨40, 1, [⟨2, 6⟩]⟩)) (with2 (holding .active [] [flying 40]))).site 2).mapper.failingBits = 2 := by
  decide

/-- 5.9 with the unused bits of the vector index set, which are ignored (R194). -/
theorem test_result_ignores_high_bits :
    after (.result 2 (some ⟨40, 1, [⟨0xC2, 6⟩]⟩)) (with2 (holding .active [] [flying 40]))
      = after (.result 2 (some ⟨40, 1, [⟨2, 6⟩]⟩)) (with2 (holding .active [] [flying 40])) := by decide

/-- A site in ACTIVE with no spare rows or columns, that retires when found unrepairable, one burst in flight and one
waiting. -/
def unspared : Site :=
  { holding .active [waiting 41] [flying 40] with
    config := { (siteIn .active).config with retireOnUnrepairable := true }
    regions := Vector.replicate 16 Region.reset }

/-- R78, R102: the first cell makes the region UNREPAIRABLE, and the site leaves ACTIVE with its launch queue flushed; the
rest of the result is taken all the same. -/
theorem test_result_retires :
    ((after (.result 2 (some ⟨40, 1, [⟨2, 6⟩]⟩)) (with2 unspared)).site 2).run.state = .retired
    ∧ ((after (.result 2 (some ⟨40, 1, [⟨2, 6⟩]⟩)) (with2 unspared)).site 2).run.primary = some .unrepairable
    ∧ ((after (.result 2 (some ⟨40, 1, [⟨2, 6⟩]⟩)) (with2 unspared)).site 2).head.flushed = 1
    ∧ ((after (.result 2 (some ⟨40, 1, [⟨2, 6⟩]⟩)) (with2 unspared)).site 2).regions[1].ignored = 1 := by decide

/-- 5.11, step 1: record 60 is LOST and 61 ANSWERED. -/
theorem test_result_matches :
    (((after (.result 2 (some ⟨61, 1, []⟩)) (with2 (holding .active [] [flying 60, flying 61, flying 62]))).site
      2).head.inFlight = [flying 62])
    ∧ ((after (.result 2 (some ⟨61, 1, []⟩)) (with2 (holding .active [] [flying 60, flying 61, flying 62]))).site
      2).mapper.lost = 1
    ∧ ((after (.result 2 (some ⟨61, 1, []⟩)) (with2 (holding .active [] [flying 60, flying 61, flying 62]))).site
      2).run.mapIncomplete = true := by decide

/-- 8.5, steps 5 and 12: a blanked sample, and the one that trips. -/
theorem test_telemetry_trips :
    ((after (.telemetry 2 (some ⟨1700, 0, 0⟩))
      (with2 { siteIn .armed with supply := ⟨some 1900, some 2400, 1, 0⟩ })).site 2).supply = ⟨some 1700, some 2400, 0, 0⟩
    ∧ ((after (.telemetry 2 (some ⟨1830, 0, 0⟩))
      { with2 { siteIn .active with supply := ⟨some 1820, some 2400, 0, 2⟩ } with
        pairs := hubUp.pairs.set 1 ⟨1800, 3, 4, .full⟩ }).site 2).run.primary = some .overcurrent := by decide

/-- 7.8: the first update of the worked alignment. -/
theorem test_telemetry_aligns :
    ((after (.telemetry 2 (some ⟨100, 1, 10⟩))
      (with2 { siteIn .active with
        config := { (siteIn .active).config with gain := 3, errorMode := .actual }
        marks := ⟨200, 0, [], .low⟩ })).site 2).marks = ⟨193, 2, [], .low⟩ := by decide

/-! ### Steps -/

/-- A step takes the front command; on an empty queue with nothing due the clock ticks. -/
theorem test_step : step { hubUp with pending := [.trunkFrameCheckFail, .mark] }
      = exec .trunkFrameCheckFail { hubUp with pending := [.mark] }
    ∧ step hubUp = .next { hubUp with clock := 1 } := ⟨rfl, rfl⟩

/-! ### Witnesses: states and operands that meet the hypotheses of each statement -/

theorem witness_StepTakesTheFrontCommand :
    ({ hubUp with pending := [.beat, .mark] } : State).pending = .beat :: [.mark] := rfl

/-- A BURST, a MARK, a BEAT, and a CTRL frame of the largest payload. -/
theorem witness_TrunkFramesReadBack :
    ((Instr.burst (workedBurst 1)).wf = true ∧ (encodeTrunkFrame (.burst (workedBurst 1))).isSome = true)
    ∧ (encodeTrunkFrame .mark).isSome = true ∧ (encodeTrunkFrame .beat).isSome = true
    ∧ (Instr.ctrl ⟨7, 2, List.replicate 1021 0⟩).wf = true
    ∧ (encodeTrunkFrame (.ctrl ⟨7, 2, List.replicate 1021 0⟩)).isSome = true :=
  ⟨⟨rfl, rfl⟩, rfl, rfl, test_wf_takes_full_ctrl, rfl⟩

/-- A RESULT of 64 entries, a TELEMETRY and a TRAIN frame. -/
theorem witness_HeadFramesReadBack :
    (ResultFrame.mk 40 1 (List.replicate 64 ⟨0, 1⟩)).wf = true
    ∧ (∃ b, encodeHeadFrame (.result 2 (some ⟨40, 1, List.replicate 64 ⟨0, 1⟩⟩)) = some b)
    ∧ (∃ b, encodeHeadFrame (.telemetry 2 (some ⟨1000, 1, 0xFB⟩)) = some b)
    ∧ (∃ b, encodeHeadFrame (.trainFrameReceived 2 (some ⟨2, 1⟩)) = some b) :=
  ⟨test_wf_takes_full_result, ⟨_, rfl⟩, ⟨_, rfl⟩, ⟨_, rfl⟩⟩

/-- A report frame of sixteen records within the largest payload. -/
theorem witness_FramesSentCarryTheirFieldsAndCheck :
    (oneByte 16 ++ (List.replicate 16 (Record.diag .all .skipped)).flatMap Record.bytes).length ≤ 4096 := by decide

/-- The smallest geometry and the longest burst; a start row and column whose unused bits are set. -/
theorem witness_LogicalAddressesOfABurstAreDistinct :
    worked.geometry.inRange = true ∧ ({ workedDesc with n := 64 } : Descriptor).n ≤ 64 ∧ 0 < 64 ∧ 63 < 64
    ∧ 18 = ({ workedDesc with r0 := 274 } : Descriptor).r0.toNat % 2 ^ worked.geometry.rb
    ∧ 14 = ({ workedDesc with c0 := 30 } : Descriptor).c0.toNat % 2 ^ worked.geometry.cb := by decide

/-- The highest bit of a physical address; a bank that passes, and one that fails each check, at an index above one that keeps it. -/
theorem witness_ValidMapsAreBijections :
    worked.validate = none ∧ (11 : Fin 26).val < worked.geometry.rb + worked.geometry.cb
    ∧ (GeometryFits worked.geometry ∧ (∀ i : Fin 26, ¬ SourceFails worked i) ∧ (∀ i : Fin 26, ¬ PartnerFails worked i)
      ∧ ∀ d : Fin 16, ¬ PinFails worked d)
    ∧ ¬ GeometryFits ⟨7, 4, 4, 2, 2⟩
    ∧ (let t : Tables := { worked with map := worked.map.set 11 ⟨0, false, none⟩ }
      GeometryFits t.geometry ∧ SourceFails t 11 ∧ ∀ j : Fin 26, j < 11 → ¬ SourceFails t j)
    ∧ (let t : Tables := { worked with map := worked.map.set 2 ⟨2, false, some 4⟩ }
      (∀ i : Fin 26, ¬ SourceFails t i) ∧ PartnerFails t 2 ∧ ∀ j : Fin 26, j < 2 → ¬ PartnerFails t j)
    ∧ (let t : Tables := { worked with pinOrder := worked.pinOrder.set 3 4 }
      (∀ i : Fin 26, ¬ PartnerFails t i) ∧ PinFails t 3 ∧ ∀ e : Fin 16, e < 3 → ¬ PinFails t e) :=
  ⟨by decide, by decide, ⟨by decide, by decide, by decide, by decide⟩, by decide, by decide, by decide, by decide⟩

/-- The highest data bit; vector 1 of the worked expansion (2.9) in ALTERNATE, on row 19 and column 7, with flag 1. -/
theorem witness_PinDataDrivesEachPinOnce :
    (worked.validate = none ∧ (3 : Fin 16).val < worked.geometry.w)
    ∧ 19 = physAddr worked (logicalAddr worked.geometry { workedDesc with dataMode := .alternate } 1) / 2 ^ worked.geometry.cb
    ∧ 7 = physAddr worked (logicalAddr worked.geometry { workedDesc with dataMode := .alternate } 1) % 2 ^ worked.geometry.cb
    ∧ 10 = 2 ^ worked.geometry.w - 1 - workedDesc.d.toNat % 2 ^ worked.geometry.w
    ∧ ((List.range worked.geometry.rb).filter fun k => Nat.testBit 19 k && worked.rm.getLsbD k).length % 2 = 1
    ∧ ((List.range worked.geometry.cb).filter fun k => Nat.testBit 7 k && worked.cm.getLsbD k).length % 2 = 0 := by decide

/-- A held pin with a command it stops, a released pin, and a held pin to release. -/
theorem witness_PowerOnAndThePinResetEveryBlock :
    ({ hubUp with resetPin := .low } : State).resetPin = .low ∧ Instr.mark ≠ .powerOnReset ∧ Instr.mark ≠ .resetPin
    ∧ Instr.mark ≠ .resetPinRelease ∧ Released hubUp := by decide

/-- Both flags, a free link, one that sends a report frame and one that sends a flow frame; bodies without a flag. -/
theorem witness_HubResetKeepsTheTrunkLink :
    Asked (asked 1 [1, 1] hubUp) 1 ⟨7, 1, [1, if true then 1 else 0]⟩ []
    ∧ Asked (asked 1 [1, 0] sending) 1 ⟨7, 1, [1, if false then 1 else 0]⟩ []
    ∧ (asked 1 [1, 1] hubUp).trunk.upstream = .free
    ∧ (asked 1 [1, 0] sending).trunk.upstream = .report [.diag .all .skipped] false
    ∧ (let s := asked 1 [1, 1] { hubUp with trunk := { hubUp.trunk with upstream := .flow .hold } }
      Asked s 1 ⟨7, 1, [1, 1]⟩ [] ∧ s.trunk.upstream = .flow .hold)
    ∧ (∀ body ∈ ([[], [1, 2]] : List (List Byte)), Asked (asked 1 body hubUp) 1 ⟨7, 1, body⟩ [] ∧ body ≠ [1, 0]
      ∧ body ≠ [1, 1]) := by decide

theorem witness_EverySiteTakesItsResetValues :
    Asked (asked 1 [1, 1] (with2 retiring)) 1 ⟨7, 1, [1, 1]⟩ [] := by decide

/-- A self-test that runs, and one that is skipped. -/
theorem witness_SelfTestEndMakesTheHubReady :
    (Released State.reset ∧ QuietInSelfTest State.reset ∧ State.reset.selfTest = some ⟨false, 10000000⟩)
    ∧ Released (after .hubReset (asked 1 [1, 1] hubUp)) ∧ QuietInSelfTest (after .hubReset (asked 1 [1, 1] hubUp))
    ∧ (after .hubReset (asked 1 [1, 1] hubUp)).selfTest = some ⟨true, 500000⟩ :=
  ⟨⟨by decide, by decide, by decide⟩, by decide, by decide, by decide⟩

/-- DOWN; TRAINING with runs of 16 and 15, the second after an error and the first added to a count of 10. -/
theorem witness_TrunkTrainingBringsTheLinkUp :
    Released State.reset ∧ State.reset.trunk.link = .down
    ∧ (let s : State := { State.reset with trunk := { TrunkPort.reset with link := .training, sequences := 10 } }
      Released s ∧ s.trunk.link = .training ∧ s.trunk.upstream = .free
      ∧ aligned 6 = List.replicate 6 .errorFree ∧ 16 = s.trunk.sequences + 6
      ∧ aligned 3 ++ .error :: aligned 15 = aligned 3 ++ .error :: List.replicate 15 .errorFree ∧ 15 < 16) := by decide

theorem witness_TrunkLossKeepsEveryRecord : Released sending ∧ sending.trunk.link = .up := by decide

/-- Three and four requests outstanding; a hub in SELFTEST. -/
theorem witness_TrunkArrivalsAreTakenOrCounted :
    Released hubUp ∧ hubUp.trunk.link = .up ∧ State.reset.hub = .selftest ∧ Released State.reset
    ∧ Receiving { hubUp with agent := ⟨[⟨12, 7, []⟩], 3, 0, false⟩ }
    ∧ Receiving { hubUp with agent := ⟨[⟨12, 7, []⟩], 4, 0, false⟩ } := by decide

/-- A BEAT; the smallest limit; RESUME taken in HOLDOVER after a BEAT, and refused in READY, without a BEAT and
with an item. -/
theorem witness_HeartbeatHoldoverAndResume :
    Receiving hubUp
    ∧ (Released { hubUp with beat := ⟨1, some 0, true⟩ } ∧ ({ hubUp with beat := ⟨1, some 0, true⟩ } : State).hub ≠ .selftest
      ∧ ({ hubUp with beat := ⟨1, some 0, true⟩ } : State).beat.counter = some 0)
    ∧ Asked (asked 16 [] { hubUp with hub := .holdover, beat := ⟨1, some 0, true⟩ }) 16 ⟨7, 16, []⟩ []
    ∧ Asked (asked 16 [] hubUp) 16 ⟨7, 16, []⟩ [] ∧ (asked 16 [] hubUp).hub = .ready
    ∧ Asked (asked 16 [] { hubUp with hub := .holdover }) 16 ⟨7, 16, []⟩ []
    ∧ (asked 16 [] { hubUp with hub := .holdover }).beat.seen = false
    ∧ Asked (asked 16 [1, 0] hubUp) 16 ⟨7, 16, [1, 0]⟩ [] := by decide

/-- Rejected counts 0 and 65 and a code 4; counts 1 and 64 with no site ACTIVE; an ACTIVE site with 31 entries, with a gap. -/
theorem witness_BurstsAreCopiedToTheActiveSites :
    Receiving hubUp
    ∧ false = hubUp.sorter.lastTag.any (fun last => decide ((workedBurst 2).tag ≠ last + 1))
    ∧ ({ workedBurst 2 with n := 0 } : BurstFrame).n = 0 ∧ 64 < ({ workedBurst 2 with n := 65 } : BurstFrame).n.toNat
    ∧ (4 : Byte) ∉ ([1, 2, 3] : List Byte)
    ∧ 1 ≤ ({ workedBurst 2 with n := 1 } : BurstFrame).n.toNat ∧ ({ workedBurst 2 with n := 64 } : BurstFrame).n.toNat ≤ 64
    ∧ Op.ofCode (workedBurst 2).op = some .readCompare ∧ Order.ofCode (workedBurst 2).order = some .colFast
    ∧ Direction.ofCode (workedBurst 2).direction = some .up ∧ DataMode.ofCode (workedBurst 2).dataMode = some .solid
    ∧ (∀ i : SiteIx, (hubUp.site i).run.state ≠ .active)
    ∧ (let s : State := { with2 (holding .active (List.replicate 31 (waiting 9)) []) with sorter := ⟨some 41, 0, 0⟩ }
      Receiving s ∧ true = s.sorter.lastTag.any (fun last => decide ((workedBurst 2).tag ≠ last + 1))
      ∧ (∃ i : SiteIx, (s.site i).run.state = .active)
      ∧ ∀ i : SiteIx, (s.site i).run.state = .active →
        (s.site i).config.mode ≠ .disabled ∧ (s.site i).head.launchQueue.length < 32) := by decide

/-- Site 2 with 32 entries, site 3 ACTIVE with 31, the bank holding their references; the tag in sequence and after a gap. -/
theorem witness_AFullLaunchQueueLosesTheRun :
    let s : State := { with2 (holding .active (List.replicate 32 (waiting 9)) [flying 8]) with
      sorter := ⟨some 39, 0, 0⟩
      profiles := hubUp.profiles.set 0 ⟨.a, false, ⟨true, 64, worked⟩, Bank.reset worked⟩ }
    let u := s.modSite 3 fun _ => holding .active (List.replicate 31 (waiting 9)) []
    Receiving u ∧ false = u.sorter.lastTag.any (fun last => decide ((workedBurst 2).tag ≠ last + 1))
    ∧ true = ({ u with sorter := ⟨some 41, 0, 0⟩ } : State).sorter.lastTag.any
      (fun last => decide ((workedBurst 2).tag ≠ last + 1))
    ∧ descriptorOf (workedBurst 2) = some workedDesc
    ∧ ([2] : List SiteIx) = (allSites.filter fun i =>
      decide ((u.site i).run.state = .active ∧ 32 ≤ (u.site i).head.launchQueue.length))
    ∧ (∀ i : SiteIx, (u.site i).run.state = .active → (u.site i).config.mode ≠ .disabled)
    ∧ (∀ r : BankRef, (([2] : List SiteIx).flatMap fun i => (u.site i).head.launchQueue.map LaunchEntry.bound).count r
      ≤ (u.bank r).refCount)
    ∧ (u.site 3).run.state = .active ∧ (3 : SiteIx) ∉ ([2] : List SiteIx) ∧ (u.site 3).config.mode = .profile 0 := by
  refine ⟨by decide, by decide, by decide, by decide, by decide, by decide, ?_, by decide, by decide, by decide⟩
  rintro ⟨k, _ | _⟩ <;> revert k <;> decide

/-- READY with the trunk link UP and with it DOWN; SELFTEST. -/
theorem witness_TheMarkPointSwapsMovesAndCounts :
    (Released (hub2 .armed) ∧ (hub2 .armed).hub ≠ .selftest)
    ∧ (let s : State := { hub2 .armed with trunk := TrunkPort.reset }
      Released s ∧ s.hub ≠ .selftest ∧ s.trunk.link = .down)
    ∧ Released State.reset ∧ State.reset.hub = .selftest := by decide

/-- No setting pending; PASS; MULTIPLY without an interval, and with intervals whose spacings are 255 and 256 ticks. -/
theorem witness_FrameMarksAreServedByTheModeInForce :
    Released multiplying ∧ multiplying.hub ≠ .selftest ∧ multiplying.marks.pendingSetting = none
    ∧ hubUp.marks.setting.mode ≠ .multiply
    ∧ (let s : State := { hubUp with marks := { MarkUnit.reset with setting := ⟨.multiply, 4⟩ } }
      Released s ∧ s.hub ≠ .selftest ∧ s.marks.lastFrameMark = none ∧ s.marks.interval = none)
    ∧ min (multiplying.clock - 0) (2 ^ 32 - 1) = 10000
    ∧ Released { multiplying with clock := 1023 } ∧ 1023 / 4 < 256 ∧ Released { multiplying with clock := 1024 }
    ∧ 256 ≤ 1024 / 4 := by decide

theorem witness_SeriesPointsAndLinePulses :
    Released (after .mark multiplying) ∧ (after .mark multiplying).marks.series = some ⟨1, 4, 2500⟩
    ∧ (after .mark multiplying).marks.lastFrameMark = some 10000
    ∧ ((after .mark multiplying).site 2).marks.scheduled = [⟨10100, 8⟩]
    ∧ (after .mark multiplying).marks.monPulse = some 10008
    ∧ (let s := with2 { siteIn .active with marks := ⟨0, 0, [⟨112, 8⟩], .high 112⟩ }
      Released s ∧ (s.site 2).marks.line = .high 112 ∧ ∀ m ∈ (s.site 2).marks.scheduled, 112 ≤ m.due) := by decide

/-- Every kind, the unknown kinds 00H and 11H among them. -/
theorem witness_EveryRequestIsAnsweredOnce : ∀ kind : Byte, Asked (asked kind [] hubUp) kind ⟨7, kind, []⟩ [] :=
  fun _ => ⟨rfl, rfl, rfl⟩

/-- Site 8, profile 4, region 16 and bank code 3 name nothing. -/
theorem test_codes_out_of_range :
    (∀ j : SiteIx, (8 : Byte) ≠ BitVec.ofNat 8 j.val) ∧ (∀ j : ProfileIx, (4 : Byte) ≠ BitVec.ofNat 8 j.val)
    ∧ (∀ g : RegionIx, (16 : Byte) ≠ BitVec.ofNat 8 g.val) ∧ (∀ n : BankName, (3 : Byte) ≠ BitVec.ofNat 8 n.code) :=
  ⟨by decide, by decide, by decide, fun n => by cases n <;> decide⟩

/-- The three parts; map entries 25 alone and 18 to 25; refused: part 4 of GET_HUB, and of READ_PROFILE profile 4, bank code 3, and MAP
with counts 0 and 9 and with entries 25 and 26. -/
theorem witness_HubAndProfileReadsAnswerWhatIsHeld :
    (∀ body : List Byte, Asked (asked 2 body hubUp) 2 ⟨7, 2, body⟩ []) ∧ (∀ body : List Byte, Asked (asked 5 body hubUp) 5
      ⟨7, 5, body⟩ [])
    ∧ (1 ≤ (1 : Byte).toNat ∧ (25 : Byte).toNat + (1 : Byte).toNat ≤ 26)
    ∧ ((8 : Byte).toNat ≤ 8 ∧ (18 : Byte).toNat + (8 : Byte).toNat ≤ 26)
    ∧ ([1, 4] : List Byte) ∉ ([[1, 1], [1, 2], [1, 3]] : List (List Byte))
    ∧ ∀ body ∈ ([[2, 0, 4, 1, 1, 1, 1], [2, 0, 0, 1, 3, 1, 3], [2, 0, 0, 1, 1, 1, 2, 2, 0, 0, 2, 0, 0],
        [2, 0, 0, 1, 1, 1, 2, 2, 0, 0, 2, 0, 9], [2, 0, 0, 1, 1, 1, 2, 2, 0, 25, 2, 0, 2]] : List (List Byte)),
      ∀ (j : ProfileIx) (n : BankName), body ≠ [2, 0, BitVec.ofNat 8 j.val, 1, BitVec.ofNat 8 n.code, 1, 1]
        ∧ body ≠ [2, 0, BitVec.ofNat 8 j.val, 1, BitVec.ofNat 8 n.code, 1, 3]
        ∧ ∀ first count : Byte, 1 ≤ count.toNat → count.toNat ≤ 8 → first.toNat + count.toNat ≤ 26 →
          body ≠ [2, 0, BitVec.ofNat 8 j.val, 1, BitVec.ofNat 8 n.code, 1, 2, 2, 0, first, 2, 0, count] := by
  refine ⟨fun _ => ⟨rfl, rfl, rfl⟩, fun _ => ⟨rfl, rfl, rfl⟩, by decide, by decide, by decide, fun body hb j n => ?_⟩
  simp only [List.mem_cons, List.not_mem_nil, or_false] at hb
  rcases hb with rfl | rfl | rfl | rfl | rfl <;>
    refine ⟨fun e => ?_, fun e => ?_, fun first count low high fit e => ?_⟩ <;> simp at e
  · exact test_codes_out_of_range.2.1 j e.1
  · exact test_codes_out_of_range.2.2.2 n e.2
  all_goals
    obtain ⟨-, -, rfl, rfl⟩ := e
    revert low high fit
    decide

/-- Every body; refused: a body without items, READ_SITE of site 8 and of part 9, READ_REGION of region 16, READ_CELLS of site
8. -/
theorem witness_SiteReadsAnswerWhatIsHeld :
    (∀ (kind : Byte) (body : List Byte), Asked (asked kind body screened) kind ⟨7, kind, body⟩ [])
    ∧ (∀ body ∈ ([[], [2, 0, 8, 1, 1], [2, 0, 2, 1, 9]] : List (List Byte)), ∀ (j : SiteIx) (p : Byte), 1 ≤ p.toNat →
      p.toNat ≤ 5 → body ≠ [2, 0, BitVec.ofNat 8 j.val, 1, p])
    ∧ (∀ (j : SiteIx) (h : RegionIx), ([2, 0, 2, 2, 0, 16] : List Byte)
      ≠ [2, 0, BitVec.ofNat 8 j.val, 2, 0, BitVec.ofNat 8 h.val])
    ∧ ∀ (j : SiteIx) (h : RegionIx) (top at_ : Byte), ([2, 0, 8, 2, 0, 0, 2, 0, 0] : List Byte)
      ≠ [2, 0, BitVec.ofNat 8 j.val, 2, 0, BitVec.ofNat 8 h.val, 2, top, at_] := by
  refine ⟨fun _ _ => ⟨rfl, rfl, rfl⟩, fun body hb j p low high e => ?_, fun j h e => ?_, fun j h top at_ e => ?_⟩
  · simp only [List.mem_cons, List.not_mem_nil, or_false] at hb
    rcases hb with rfl | rfl | rfl <;> simp at e
    · exact test_codes_out_of_range.1 j e.1
    · obtain ⟨-, rfl⟩ := e
      revert high
      decide
  · simp at e
    exact test_codes_out_of_range.2.2.1 h e.2
  · simp at e
    exact test_codes_out_of_range.1 j e.1

/-- A body without items, and one with T = 300 and BL = 40. -/
theorem witness_SetHubAppliesItsOptionsClamped :
    Asked (asked 3 [] hubUp) 3 ⟨7, 3, []⟩ [] ∧ setHubOperands ⟨7, 3, []⟩ = none
    ∧ Asked (asked 3 [2, 1, 44, 2, 0, 40, 0, 0] hubUp) 3 ⟨7, 3, [2, 1, 44, 2, 0, 40, 0, 0]⟩ []
    ∧ setHubOperands ⟨7, 3, [2, 1, 44, 2, 0, 40, 0, 0]⟩ = some ⟨some 300, some 40, none, none⟩ := by decide

/-- A write of the worked geometry to a profile. -/
def writeBody (profile rb : Byte) : List Byte :=
  [2, 0, profile, 1, 1, 2, 0, rb, 2, 0, 4, 2, 0, 4, 2, 0, 2, 2, 0, 2]

/-- Fields at the ends of their ranges and beyond; a body without items, profile 4, RB = 7, a pending swap, a standby bank with a reference, and none. -/
theorem witness_WriteProfileReachesTheStandbyBankAlone :
    ((ProfileWrite.geometry ⟨16, 10, 16, 4, 4⟩).inRange = true ∧ (ProfileWrite.geometry ⟨17, 10, 16, 4, 4⟩).inRange = false
      ∧ (ProfileWrite.map 18 (List.replicate 8 (25, 1, some 25))).inRange = true
      ∧ (ProfileWrite.map 19 (List.replicate 8 (25, 1, some 25))).inRange = false
      ∧ (ProfileWrite.topology (List.replicate 16 15) 0 0 0 0).inRange = true
      ∧ (ProfileWrite.topology (List.replicate 16 16) 0 0 0 0).inRange = false)
    ∧ writeProfileOperands ⟨7, 4, []⟩ = none
    ∧ writeProfileOperands ⟨7, 4, writeBody 4 8⟩ = some (4, .geometry ⟨8, 4, 4, 2, 2⟩)
    ∧ writeProfileOperands ⟨7, 4, writeBody 0 7⟩ = some (0, .geometry ⟨7, 4, 4, 2, 2⟩)
    ∧ (ProfileWrite.geometry ⟨7, 4, 4, 2, 2⟩).inRange = false
    ∧ writeProfileOperands ⟨7, 4, writeBody 0 8⟩ = some (0, .geometry ⟨8, 4, 4, 2, 2⟩)
    ∧ (ProfileWrite.geometry ⟨8, 4, 4, 2, 2⟩).inRange = true
    ∧ Asked (asked 4 (writeBody 0 8) hubUp) 4 ⟨7, 4, writeBody 0 8⟩ []
    ∧ ((hubUp.modProfile 0 fun p => { p with pendingSwap := true }).profile 0).pendingSwap = true
    ∧ (let s := hubUp.addRef ⟨0, .b⟩
      (s.profile 0).pendingSwap = false ∧ ((s.profile 0).bank (s.profile 0).active.other).refCount ≠ 0)
    ∧ (hubUp.profile 0).pendingSwap = false ∧ ((hubUp.profile 0).bank (hubUp.profile 0).active.other).refCount = 0 := by decide

/-- The longest item of map entries, and the highest partner that a byte names. -/
theorem witness_WriteProfileReadsItsItems :
    3 * (List.replicate 85 ((1 : Byte), (1 : Byte), some (254 : Byte))).length < 256
    ∧ ∀ e ∈ List.replicate 85 ((1 : Byte), (1 : Byte), some (254 : Byte)), e.2.2 ≠ some 255 := by
  refine ⟨by simp, fun e he => ?_⟩
  rw [List.eq_of_mem_replicate he]
  decide

theorem witness_WritesReplaceThePartAlone :
    25 + ([(1, 1, none)] : List (Nat × Nat × Option Nat)).length ≤ 26 ∧ (List.replicate 16 3).length = 16 := by decide

/-- Bodies that are not one item of two bytes: without items, an item of one byte, two items. -/
theorem witness_MalformedIndexBodies : ∀ (kind hi lo : Byte), ∀ body ∈ ([[], [1, 2], [2, 0, 2, 0]] : List (List Byte)),
    Asked (asked kind body hubUp) kind ⟨7, kind, body⟩ [] ∧ body ≠ [2, hi, lo] := by
  refine fun kind hi lo body hb => ⟨⟨rfl, rfl, rfl⟩, ?_⟩
  simp only [List.mem_cons, List.not_mem_nil, or_false] at hb
  rcases hb with rfl | rfl | rfl <;> simp

/-- Profile 4; a pending swap; a standby bank that fails; a site in test under another geometry; a swap accepted. -/
theorem witness_SwapProfileTakesItsConditionsInOrder :
    Asked (asked 6 [2, 0, 4] hubUp) 6 ⟨7, 6, [2, 0, 4]⟩ [] ∧ 4 ≤ ((0 : Byte) ++ (4 : Byte)).toNat
    ∧ ((0 : Byte) ++ (0 : Byte)).toNat = (0 : ProfileIx).val
    ∧ ((hubUp.modProfile 0 fun p => { p with pendingSwap := true }).profile 0).pendingSwap = true
    ∧ ((hubUp.profile 1).pendingSwap = false ∧ ((hubUp.profile 1).bank .b).valid = false
      ∧ ((hubUp.profile 1).bank .b).tables.validate = some (.geometryRange, 0))
    ∧ (let s := (hub2 .armed).modProfile 0 fun p => { p with bankB := { p.bankB with
        tables := { worked with geometry := ⟨8, 4, 4, 2, 1⟩ } } }
      (s.profile 0).pendingSwap = false ∧ ((s.profile 0).bank .b).tables.validate = none
      ∧ ((s.profile 0).bank .b).tables.geometry ≠ ((s.profile 0).bank .a).tables.geometry
      ∧ ∃ i : SiteIx, (s.site i).config.mode = .profile 0 ∧ (s.site i).run.state.inTest = true)
    ∧ (hubUp.profile 0).pendingSwap = false ∧ ((hubUp.profile 0).bank .b).tables.validate = none
    ∧ ((hubUp.profile 0).bank .b).tables.geometry = ((hubUp.profile 0).bank .a).tables.geometry := by decide

/-- A SET_SITE body with a mode and no option. -/
def modeBody (site mode index : Byte) : List Byte := [2, 0, site, 2, mode, index, 0, 0, 0, 0, 0, 0, 0]

/-- A body without items; site 8; a change of profile in ACTIVE; the same mode in ACTIVE; a mode in the other states; a mode
with an offset, and with the retire option on a site without a verdict. -/
theorem witness_SetSiteModeFollowsTheStateTable :
    setSiteOperands ⟨7, 7, []⟩ = none
    ∧ setSiteOperands ⟨7, 7, modeBody 8 1 0⟩ = some (8, some .disabled, ⟨none, none, none, none, none, none, none⟩)
    ∧ setSiteOperands ⟨7, 7, modeBody 2 2 1⟩ = some ((2 : SiteIx).val, some (.profile 1), ⟨none, none, none, none, none, none, none⟩)
    ∧ setSiteOperands ⟨7, 7, [2, 0, 2, 2, 2, 1, 0, 0, 0, 0, 0, 0, 2, 0, 100]⟩
      = some ((2 : SiteIx).val, some (.profile 1), ⟨none, none, none, none, none, none, some 100⟩)
    ∧ ((hub2 .active).site 2).run.unrepairable = false
    ∧ SiteMode.profile 1 ≠ ((hub2 .active).site 2).config.mode ∧ ((hub2 .active).site 2).run.state.inTest = true
    ∧ SiteMode.profile 0 = ((hub2 .active).site 2).config.mode
    ∧ ((hub2 .retired).site 2).run.state.inTest = false ∧ ((hub2 .released).site 2).run.state.inTest = false
    ∧ ((hub2 .disabled).site 2).run.state = .disabled
    ∧ ∀ st : SiteState, Asked (asked 7 (modeBody 2 2 1) (hub2 st)) 7 ⟨7, 7, modeBody 2 2 1⟩ [] :=
  ⟨by decide, by decide, by decide, by decide, by decide, by decide, by decide, by decide, by decide, by decide, by decide,
    fun _ => ⟨rfl, rfl, rfl⟩⟩

/-- Every option out of its range, in ACTIVE without a verdict; and the retire option in RETIRED with one, and in
ACTIVE and DRAINING with one and the option set already. -/
theorem witness_SetSiteOptionsTakeTheirAppliedValues :
    (let body : List Byte := [2, 0, 2, 0, 1, 1, 3, 2, 0, 0, 2, 1, 0, 1, 4, 1, 7, 1, 2, 2, 0x13, 0x88]
    Asked (asked 7 body (hub2 .active)) 7 ⟨7, 7, body⟩ []
    ∧ setSiteOperands ⟨7, 7, body⟩ = some ((2 : SiteIx).val, none,
        ⟨some true, some ⟨some .first, some 0⟩, some 256, some .both, some 7, some .actual, some 5000⟩)
    ∧ ((hub2 .active).site 2).run.unrepairable = false)
    ∧ ((hub2 .retired).site 2).run.state ≠ .active ∧ ((hub2 .retired).site 2).run.state ≠ .draining
    ∧ (let s (st : SiteState) : State := with2 { siteIn st with
        config := { (siteIn st).config with retireOnUnrepairable := true }
        run := { (siteIn st).run with unrepairable := true } }
      ∀ st ∈ ([.active, .draining] : List SiteState),
        ((s st).site 2).run.state = st ∧ ((s st).site 2).run.unrepairable = true
        ∧ ((s st).site 2).config.retireOnUnrepairable = true) := by decide

/-- A SET_PAIR body with a rate class. -/
def pairBody (pair rate : Byte) : List Byte := [2, 0, pair, 0, 0, 0, 1, rate]

/-- A body without items; pair 4; HALF with a site in IDLE; HALF with both sites DISABLED; no change of class. -/
theorem witness_SetPairTakesItsConditionsInOrder :
    setPairOperands ⟨7, 8, []⟩ = none ∧ setPairOperands ⟨7, 8, pairBody 4 2⟩ = some (4, ⟨none, none, none, some .half⟩)
    ∧ setPairOperands ⟨7, 8, pairBody 1 2⟩ = some ((1 : PairIx).val, ⟨none, none, none, some .half⟩)
    ∧ setPairOperands ⟨7, 8, pairBody 1 1⟩ = some ((1 : PairIx).val, ⟨none, none, none, some .full⟩)
    ∧ LinkRate.half ≠ (hub2 .idle).pairs[1].rate ∧ LinkRate.full = (hub2 .idle).pairs[1].rate
    ∧ (∃ i : SiteIx, i.pair = 1 ∧ ((hub2 .idle).site i).run.state ≠ .disabled ∧ ((hub2 .idle).site i).run.state ≠ .released)
    ∧ (∀ i : SiteIx, i.pair = 1 → (hubUp.site i).run.state = .disabled ∨ (hubUp.site i).run.state = .released)
    ∧ Asked (asked 8 (pairBody 1 2) hubUp) 8 ⟨7, 8, pairBody 1 2⟩ [] := by decide

/-- Site 8; a site not in IDLE; IDLE with mode DISABLED; no VALID active bank; a pending change of geometry; a join. -/
theorem witness_JoinSiteTakesItsConditionsInOrder :
    8 ≤ ((0 : Byte) ++ (8 : Byte)).toNat ∧ ((0 : Byte) ++ (2 : Byte)).toNat = (2 : SiteIx).val
    ∧ Asked (asked 9 [2, 0, 2] (hub2 .idle)) 9 ⟨7, 9, [2, 0, 2]⟩ []
    ∧ ((hub2 .armed).site 2).run.state ≠ .idle
    ∧ (let s := asked 9 [2, 0, 2] ((hub2 .idle).modConfig 2 fun c => { c with mode := .disabled })
      Asked s 9 ⟨7, 9, [2, 0, 2]⟩ [] ∧ (s.site 2).run.state = .idle ∧ (s.site 2).config.mode = .disabled)
    ∧ (((hub2 .idle).site 2).run.state = .idle ∧ ((hub2 .idle).site 2).config.mode = .profile 0
      ∧ (((hub2 .idle).profile 0).bank ((hub2 .idle).profile 0).active).valid = true
      ∧ ((hub2 .idle).profile 0).pendingSwap = false)
    ∧ ((hubUp.profile 1).bank (hubUp.profile 1).active).valid = false
    ∧ (let s := (hub2 .idle).modProfile 0 fun p => { p with
        pendingSwap := true, bankB := { p.bankB with tables := { worked with geometry := ⟨8, 4, 4, 2, 1⟩ } } }
      ((s.profile 0).bank (s.profile 0).active).valid = true ∧ (s.profile 0).pendingSwap = true
      ∧ ((s.profile 0).bank (s.profile 0).active.other).tables.geometry
        ≠ ((s.profile 0).bank (s.profile 0).active).tables.geometry) := by decide

/-- Site 8; IDLE, ARMED and ACTIVE; nothing in flight; a control list with a POWER_ON behind a CUT, and one without. -/
theorem witness_RetireSiteLeavesTest :
    8 ≤ ((0 : Byte) ++ (8 : Byte)).toNat ∧ ((0 : Byte) ++ (2 : Byte)).toNat = (2 : SiteIx).val
    ∧ Asked (asked 10 [2, 0, 2] (hub2 .idle)) 10 ⟨7, 10, [2, 0, 2]⟩ [] ∧ ((hub2 .idle).site 2).run.state = .idle
    ∧ Asked (asked 10 [2, 0, 2] (hub2 .armed)) 10 ⟨7, 10, [2, 0, 2]⟩ [] ∧ ((hub2 .armed).site 2).run.state = .armed
    ∧ Asked (asked 10 [2, 0, 2] (with2 retiring)) 10 ⟨7, 10, [2, 0, 2]⟩ []
    ∧ ((with2 retiring).site 2).run.state = .active
    ∧ ((hub2 .active).site 2).run.state = .active ∧ ((hub2 .active).site 2).head.inFlight = []
    ∧ (let s := asked 10 [2, 0, 2] ((hub2 .armed).modHead 2 fun h => { h with controlList := [.cut, .powerOn] })
      Asked s 10 ⟨7, 10, [2, 0, 2]⟩ [] ∧ (s.site 2).run.state = .armed
      ∧ (s.site 2).head.controlList = [.cut] ++ .powerOn :: [] ∧ .powerOn ∉ ([.cut] : List ControlKind))
    ∧ .powerOn ∉ ((hub2 .armed).site 2).head.controlList := by decide

theorem witness_RetiredSitesAreClearedOrReleased :
    8 ≤ ((0 : Byte) ++ (8 : Byte)).toNat ∧ ((0 : Byte) ++ (2 : Byte)).toNat = (2 : SiteIx).val
    ∧ Asked (asked 11 [2, 0, 2] (hub2 .retired)) 11 ⟨7, 11, [2, 0, 2]⟩ []
    ∧ Asked (asked 12 [2, 0, 2] (hub2 .retired)) 12 ⟨7, 12, [2, 0, 2]⟩ []
    ∧ ((hub2 .retired).site 2).run.state = .retired ∧ ((hub2 .retired).site 2).head.lock = .fine
    ∧ ((hub2 .active).site 2).run.state ≠ .retired
    ∧ (((hub2 .retired).modHead 2 fun h => { h with lock := .down }).site 2).head.lock ≠ .fine := by decide

/-- The retire option alone, and with the current mode and a gain, on a site with a verdict: in ACTIVE, in DRAINING, and in
DRAINING with primary cause UNREPAIRABLE. -/
theorem witness_SettingRetireOnUnrepairableRetires :
    let s (st : SiteState) : State := (hub2 st).modRun 2 fun r => { r with unrepairable := true }
    setSiteOperands ⟨7, 7, retireBody⟩ = some ((2 : SiteIx).val, none, ⟨some true, none, none, none, none, none, none⟩)
    ∧ setSiteOperands ⟨7, 7, [2, 0, 2, 2, 2, 0, 1, 1, 0, 0, 0, 1, 3, 0, 0]⟩
      = some ((2 : SiteIx).val, some ((s .active).site 2).config.mode, ⟨some true, none, none, none, some 3, none, none⟩)
    ∧ (∀ st ∈ ([.active, .draining] : List SiteState), Asked (asked 7 retireBody (s st)) 7 ⟨7, 7, retireBody⟩ []
      ∧ ((s st).site 2).run.unrepairable = true ∧ ((s st).site 2).config.retireOnUnrepairable = false
      ∧ ((s st).site 2).run.state = st ∧ ((s st).site 2).run.primary ≠ some .unrepairable)
    ∧ (((s .draining).modRun 2 fun r => { r with primary := some .unrepairable }).site 2).run.primary
      = some .unrepairable := by decide

/-- 252 and 251 records; no flag; the hub's flag; a site's; a region's. -/
theorem witness_SummaryRecordsFollowTheScanOrder :
    Released (reporting 252 1) ∧ 252 ≤ (reporting 252 1).report.queue.length
    ∧ (reporting 251 1).flagHub.report.queue.length < 252 ∧ (reporting 251 1).flagHub.report.hubPending = true
    ∧ (hubUp.report.hubPending = false ∧ ∀ i : SiteIx, (hubUp.site i).reports.summaryPending = false
        ∧ ∀ g : RegionIx, (hubUp.site i).regions[g].summaryPending = false)
    ∧ (((hub2 .active).flagSite 2).site 2).reports.summaryPending = true
    ∧ (∀ j : SiteIx, j < 2 → (((hub2 .active).flagSite 2).site j).reports.summaryPending = false
        ∧ ∀ g : RegionIx, (((hub2 .active).flagSite 2).site j).regions[g].summaryPending = false)
    ∧ (screened.site 2).reports.summaryPending = false ∧ (screened.site 2).regions[0].summaryPending = true := by decide

/-- Sixteen records with T = 0 and fifteen; one with T = 1; the coalescing time reached; a busy link. -/
theorem witness_ReportFramesTakeTheOldestRecords :
    Released (reporting 16 0) ∧ (reporting 16 0).report.timerSetting = 0 ∧ 16 ≤ (reporting 16 0).report.queue.length
    ∧ (reporting 16 0).trunk.link = .up ∧ (reporting 16 0).trunk.upstream = .free
    ∧ (reporting 16 0).trunk.pendingFlow = none ∧ (reporting 16 0).trunk.interrupted = none
    ∧ ¬ 16 ≤ (reporting 15 0).report.queue.length ∧ (reporting 15 0).urgent = false
    ∧ (reporting 1 1).report.timerSetting = 1 ∧ 0 + 2 * 2500 ≤ ({ reporting 1 2 with clock := 5000 } : State).clock
    ∧ sending.trunk.upstream ≠ .free := by decide

theorem witness_UpstreamFramesAreSentInTheirOrder :
    Released sending ∧ sending.trunk.upstream = .report [.diag .all .skipped] false
    ∧ (let s : State := { hubUp with trunk := { hubUp.trunk with interrupted := some [.diag .all .pass] } }
      s.trunk.link = .up ∧ s.trunk.upstream = .free ∧ s.trunk.pendingFlow = none)
    ∧ (let s : State := { hubUp with trunk := { hubUp.trunk with
        interrupted := some [.diag .all .pass], pendingFlow := some .hold } }
      s.trunk.pendingFlow = some .hold ∧ s.trunk.link = .up ∧ s.trunk.upstream = .free)
    ∧ (let s : State := { sending with trunk := { sending.trunk with pendingFlow := some .hold } }
      s.trunk.upstream ≠ .free)
    ∧ ({ hubUp with trunk := { hubUp.trunk with upstream := .flow .hold } } : State).trunk.upstream = .flow .hold
    ∧ (reporting 2 2).report.queue.length = 2 ∧ 2 ≤ (reporting 2 2).report.timerSetting := by decide

/-- A launch with fifteen records in flight; each condition failing; the flow state at each level and one below it. -/
theorem witness_LaunchTakesTheOldestEntry :
    (let s := with2 (holding .active [waiting 203] (List.replicate 15 (flying 9)))
    Released s ∧ (s.site 2).head.launchQueue = waiting 203 :: [] ∧ (s.site 2).run.state = .active
    ∧ (s.site 2).head.lock = .fine ∧ s.hub ≠ .holdover ∧ (s.site 2).head.inFlight.length < 16
    ∧ (s.site 2).head.expander = .idle ∧ (s.site 2).head.controlList = [])
    ∧ 16 ≤ (holding .active [waiting 203] (List.replicate 16 (flying 9))).head.inFlight.length
    ∧ (expanding .active [waiting 203] []).head.expander ≠ .idle
    ∧ ({ with2 (holding .active [waiting 203] []) with hub := .holdover } : State).hub = .holdover
    ∧ ((reporting 192 1).flow = .flowing ∧ 192 ≤ (reporting 192 1).report.queue.length)
    ∧ (let s := with2 (holding .active (List.replicate 24 (waiting 9)) [])
      s.flow = .flowing ∧ (s.site 2).run.state = .active ∧ 24 ≤ (s.site 2).head.launchQueue.length)
    ∧ (let s : State := { with2 (holding .active (List.replicate 8 (waiting 9)) []) with
        flow := .held, report := (reporting 127 1).report }
      s.flow = .held ∧ s.report.queue.length < 128
      ∧ ∀ i : SiteIx, (s.site i).run.state = .active → (s.site i).head.launchQueue.length ≤ 8)
    ∧ (let s : State := { with2 (holding .active (List.replicate 23 (waiting 9)) []) with report := (reporting 191 1).report }
      s.flow = .flowing ∧ s.report.queue.length < 192
      ∧ ∀ i : SiteIx, (s.site i).run.state = .active → (s.site i).head.launchQueue.length < 24)
    ∧ (({ reporting 128 1 with flow := .held } : State).flow = .held ∧ 128 ≤ (reporting 128 1).report.queue.length)
    ∧ 8 < (holding .active (List.replicate 9 (waiting 9)) []).head.launchQueue.length := by decide

theorem witness_FramesTowardTheHeadEndInTheirTime :
    Released (with2 (expanding .active [] [])) ∧ ((with2 (expanding .active [] [])).site 2).head.rate = .full
    ∧ ((with2 (expanding .active [] [])).site 2).head.expander = .sending (flying 40) 0
    ∧ (let s := (hub2 .retired).modHead 2 fun h => { h with controlList := [.cut, .release] }
      (s.site 2).head.controlList = .cut :: [.release] ∧ (s.site 2).head.lock = .fine ∧ (s.site 2).head.expander = .idle)
    ∧ (((hub2 .retired).modHead 2 fun h => { h with lock := .down, controlList := [.cut] }).site 2).head.lock ≠ .fine
    ∧ (let s := (hub2 .released).modHead 2 fun h => { h with expander := .control .cut 0 }
      (s.site 2).head.expander = .control .cut 0 ∧ ControlKind.cut ≠ .release)
    ∧ (let s := (hub2 .released).modHead 2 fun h => { h with expander := .control .release 0 }
      (s.site 2).head.expander = .control .release 0 ∧ (s.site 2).run.state = .released) := by decide

/-- FINE; a driven-down link; DOWN; COARSE with a run of two, of three, with another site's number and with a failed check. -/
theorem witness_FourTrainFramesBringFineLock :
    Hearing (hub2 .active) 2 ∧ Released hubUp ∧ (hubUp.site 2).head.drive = .drivenDown
    ∧ Released (training .down 0) ∧ ((training .down 0).site 2).head.drive = .enabled
    ∧ ((training .down 0).site 2).head.lock = .down
    ∧ ((training .coarse 2).site 2).head.lock = .coarse ∧ ((training .coarse 2).site 2).head.trainRun < 3
    ∧ 3 ≤ ((training .coarse 3).site 2).head.trainRun ∧ (TrainFrame.mk 0xFA 1).site.toNat % 8 = (2 : SiteIx).val
    ∧ (TrainFrame.mk 3 1).site.toNat % 8 ≠ (2 : SiteIx).val := by decide

/-- FINE lock in each of the states with a clause. -/
theorem witness_LossOfFineLockActsByTheSiteState :
    ∀ st ∈ ([.idle, .released, .armed, .primed, .active, .draining, .retired] : List SiteState),
      Hearing (hub2 st) 2 ∧ ((hub2 st).site 2).run.state = st := by decide

theorem witness_DeadlinesAndTrainingLimitsRetire :
    (let s := with2 (holding .draining [] [flying 100, { flying 101 with deadline := 1000 }])
    Released s ∧ flying 100 ∈ (s.site 2).head.inFlight
    ∧ (∀ p ∈ (s.site 2).head.inFlight, (flying 100).deadline ≤ p.deadline) ∧ (s.site 2).run.state = .draining)
    ∧ (let s := with2 (expanding .active [waiting 41] [])
      flying 40 ∈ (s.site 2).head.inFlight ∧ (s.site 2).run.state = .active)
    ∧ ((hub2 .active).site 2).head.inFlight = []
    ∧ ((training .coarse 1).site 2).run.state = .training
    ∧ ((training .coarse 1).site 2).run.trainingLimit = some 5000000
    ∧ ((hub2 .active).site 2).run.state ≠ .training := by decide

/-- A driven-down link, COARSE, FINE; a status 3, 65 entries; a tag that no record holds. -/
theorem witness_HeadFramesNobodyTakesAreCounted :
    Released hubUp ∧ (hubUp.site 2).head.drive = .drivenDown
    ∧ ((training .coarse 1).site 2).head.drive = .enabled ∧ ((training .coarse 1).site 2).head.lock = .coarse
    ∧ Hearing (hub2 .active) 2 ∧ ((3 : Byte) ≠ 1 ∧ (3 : Byte) ≠ 2) ∧ 64 < (List.replicate 65 (⟨0, 1⟩ : FailEntry)).length
    ∧ (List.replicate 64 (⟨0, 1⟩ : FailEntry)).length ≤ 64
    ∧ ∀ q ∈ ((with2 (holding .active [] [flying 60])).site 2).head.inFlight, q.desc.tag ≠ (ResultFrame.mk 40 2 []).tag := by
  decide

/-- The newest record answered DONE while it is being sent; a record behind another answered ABORTED with entries. -/
theorem witness_AMatchedResultRetiresItsRecords :
    (let s := with2 (expanding .draining [] [])
    Hearing s 2 ∧ (s.site 2).head.inFlight = [] ++ flying 40 :: [] ∧ (flying 40).desc.tag = (ResultFrame.mk 40 1 []).tag)
    ∧ (let s := with2 (holding .active [] [flying 62, flying 63, flying 64])
      Hearing s 2 ∧ (s.site 2).head.inFlight = [flying 62] ++ flying 63 :: [flying 64]
      ∧ (∀ q ∈ ([flying 62] : List InFlight), q.desc.tag ≠ (ResultFrame.mk 63 2 [⟨0, 1⟩]).tag)
      ∧ (flying 63).desc.tag = (ResultFrame.mk 63 2 [⟨0, 1⟩]).tag
      ∧ (ResultFrame.mk 63 2 [⟨0, 1⟩]).entries.length ≤ 64) := by decide

/-- The fail list of 5.10, with no room in the Report Queue, room for one of its two candidates, and room for both; and a site
whose verdict turns. -/
theorem witness_FailListsAreMappedInOrder :
    let f : ResultFrame := ⟨40, 1, [⟨0, 1⟩, ⟨0, 4⟩, ⟨2, 8⟩, ⟨1, 2⟩, ⟨3, 0⟩, ⟨3, 6⟩, ⟨4, 1⟩]⟩
    let t : Tables := { worked with ck := 8 }
    let s := (with2 (holding .active [] [flying 39, flying 40])).modProfile 0 fun p => { p with bankA := ⟨true, 2, t⟩ }
    Hearing s 2 ∧ (s.site 2).head.inFlight = [flying 39] ++ flying 40 :: [] ∧ (flying 39).desc.tag ≠ f.tag
    ∧ (flying 40).desc.tag = f.tag ∧ f.entries.length ≤ 64 ∧ (s.site 2).config.failLimit ≤ 65535
    ∧ (s.bank (flying 40).bound).tables = t
    ∧ failCandidates 2 t (flying 40).desc f.entries = [⟨2, 40, 0, 19, 6, 1, false⟩, ⟨2, 40, 3, 18, 9, 6, false⟩]
    ∧ (wantedRecords (s.site 2) (failCandidates 2 t (flying 40).desc f.entries)).length = 2
    ∧ 192 - (reporting 192 1).report.queue.length = 0 ∧ 192 - (reporting 191 1).report.queue.length = 1
    ∧ 192 - (reporting 190 1).report.queue.length = 2 ∧ (s.site 2).run.state = .active
    ∧ (unspared.run.state = .active ∧ unspared.run.unrepairable = false ∧ unspared.config.retireOnUnrepairable = true
      ∧ unspared.regions[1].state ≠ .unrepairable
      ∧ ((after (.result 2 (some ⟨40, 1, [⟨2, 6⟩]⟩)) (with2 unspared)).site 2).regions[1].state = .unrepairable) := by decide

/-- Outside test; blanked; at the level; above it below the deglitch count; and at it, without and with a phase error. -/
theorem witness_TelemetrySamplesAreSupervised :
    Hearing (hub2 .idle) 2 ∧ 1 < (TelemetryFrame.mk 0 2 0).present.toNat ∧ (TelemetryFrame.mk 4095 0 0).present = 0
    ∧ ((hub2 .idle).site 2).run.state.inTest = false
    ∧ ((hub2 .active).site 2).run.state.inTest = true ∧ ((hub2 .active).site 2).supply.blanking = 0
    ∧ 0 < ((with2 { siteIn .armed with supply := ⟨none, some 0, 1, 0⟩ }).site 2).supply.blanking
    ∧ 4095 ≤ ((hub2 .active).pairOf 2).tripLevel
    ∧ (let s : State := { hub2 .active with pairs := hubUp.pairs.set 1 ⟨1800, 2, 4, .full⟩ }
      Hearing s 2 ∧ (s.pairOf 2).tripLevel < 1801 ∧ min ((s.site 2).supply.overCount + 1) 16 < (s.pairOf 2).deglitch)
    ∧ (let s : State := { hub2 .active with pairs := hubUp.pairs.set 1 ⟨1800, 1, 4, .full⟩ }
      (s.pairOf 2).deglitch ≤ min ((s.site 2).supply.overCount + 1) 16 ∧ (TelemetryFrame.mk 1801 1 10).present = 1
      ∧ (s.pairOf 2).tripLevel < 1801 ∧ (s.site 2).run.state = .active) := by decide

/-- Gain 0; a move within the range; moves to the ends of the range and beyond each (R138). -/
theorem witness_TheAlignmentLoopMovesTheOffset :
    Hearing (hub2 .active) 2 ∧ (TelemetryFrame.mk 0 1 10).present = 1
    ∧ (TelemetryFrame.mk 0 1 10).current.toNat % 4096 ≤ ((hub2 .active).pairOf 2).tripLevel
    ∧ ((hub2 .active).site 2).config.gain = 0 ∧ ((hub2 .active).site 2).run.state.marked = true
    ∧ ((hub2 .armed).site 2).run.state.marked = false
    ∧ (200 : Int) - (0 + (0x0A#8).toInt * 3 : Int).tdiv 4 = 193 ∧ (4095 : Int) - (0 + (0xFC#8).toInt : Int).tdiv 4 = 4096
    ∧ (0 : Int) - (0 + (0x04#8).toInt : Int).tdiv 4 = -1 ∧ (1 : Int) - (0 + (0x04#8).toInt : Int).tdiv 4 = 0 := by decide

/-- A condemned region; an assigned row; a cell in the list at 255 hits; a new cell in a region without cells, and with 32 cells
whose row would exceed its limit, and would not. -/
theorem witness_RegionsTakeFailCellEvents :
    (screened.site 2).regions[0].state = .unrepairable
    ∧ (let g : Region := { Region.reset with state := .tracking, srRem := 1, scRem := 2, rows := [5], cells := [⟨7, 40, 255⟩] }
      g.state ≠ .unrepairable ∧ 5 ∈ g.rows ∧ 7 ∉ g.rows ∧ 40 ∉ g.cols ∧ g.cells = [] ++ ⟨7, 40, 255⟩ :: []
      ∧ (g.cells.map fun x => (x.row, x.col)).Nodup)
    ∧ (let g : Region := { Region.reset with srRem := 2, scRem := 2 }
      g.state ≠ .unrepairable ∧ 5 ∉ g.rows ∧ 10 ∉ g.cols ∧ (5, 10) ∉ (g.cells.map fun x => (x.row, x.col))
      ∧ g.cells.length < 32)
    ∧ (let g : Region := { Region.reset with
        state := .tracking, srRem := 4, scRem := 4
        cells := (List.range 32).map fun k => ⟨k / 4, k % 4 + 4 * (k / 16), 1⟩ }
      g.state ≠ .unrepairable ∧ 32 ≤ g.cells.length
      ∧ (0, 9) ∉ (g.cells.map fun x => (x.row, x.col)) ∧ g.scRem < (g.cells.map Cell.row).count 0 + 1
      ∧ (9, 9) ∉ (g.cells.map fun x => (x.row, x.col)) ∧ (g.cells.map Cell.row).count 9 + 1 ≤ g.scRem
      ∧ (g.cells.map Cell.col).count 9 + 1 ≤ g.srRem) := by decide

/-- The events of 6.8 up to the ninth condemn a region of two and two spares. -/
theorem witness_CondemnedRegionsCannotBeRepaired :
    (([(5, 10), (5, 20), (5, 30), (7, 40), (9, 40), (7, 50), (5, 60), (8, 60), (9, 70)] : List (Nat × Nat)).foldl
      (fun g e => g.takeEvent e.1 e.2) ({ Region.reset with srRem := 2, scRem := 2 } : Region)).state = .unrepairable
    ∧ 2 ≤ 4 := by decide

theorem witness_SiteEventsStayInTheirLane :
    ∃ t : State, exec (.result 2 (some ⟨40, 1, [⟨2, 6⟩]⟩)) (with2 (holding .active [] [flying 40])) = .next t := ⟨_, rfl⟩

/-- SELFTEST left and entered again, HOLDOVER entered and left. -/
theorem witness_OnlyTheseEventsChangeTheHubState :
    (State.reset.hub = .selftest ∧ (after (.selftestEnd ⟨true, true, true, true⟩) State.reset).hub ≠ .selftest)
    ∧ (hubUp.hub ≠ .selftest ∧ (after .powerOnReset hubUp).hub = .selftest)
    ∧ (sending.hub ≠ .holdover ∧ (after .beatExpiry sending).hub = .holdover)
    ∧ (let s := asked 16 [] { hubUp with hub := .holdover, beat := ⟨5, some 0, true⟩ }
      QuietInSelfTest s ∧ s.hub = .holdover ∧ (after .resume s).hub ≠ .holdover) :=
  ⟨by decide, by decide, by decide, by decide, by decide, by decide⟩

/-- The active bank, and a standby bank with a reference, at an accepted write to another profile. -/
theorem witness_BanksInUseAreNeverWritten :
    (∃ t : State, exec .writeProfile (asked 4 (writeBody 1 8) (hubUp.addRef ⟨0, .b⟩)) = .next t)
    ∧ BankName.a = ((hubUp.addRef ⟨0, .b⟩).profile 0).active
    ∧ (((hubUp.addRef ⟨0, .b⟩).profile 0).bank .b).refCount ≠ 0 := ⟨⟨_, rfl⟩, by decide⟩

/-- A hub whose site 2 is ACTIVE with a queue and records, its counts and references agreeing, and a command about to come. -/
def running : State :=
  { with2 { holding .active [waiting 50] [flying 48, flying 49] with
      head := { (holding .active [waiting 50] [flying 48, flying 49]).head with copied := 3, launched := 2 } } with
    pending := [.result 2 (some ⟨48, 1, [⟨2, 6⟩]⟩)]
    profiles := hubUp.profiles.set 0 ⟨.a, false, ⟨true, 3, worked⟩, Bank.reset worked⟩ }

theorem witness_StepsKeepMarksInRange : MarksInRange running ∧ ∃ t : State, step running = .next t :=
  ⟨by decide, _, rfl⟩

theorem witness_StepsConserveCopies : (QueuesHeld running ∧ Conserved running) ∧ ∃ t : State, step running = .next t :=
  ⟨by decide, _, rfl⟩

theorem witness_StepsKeepTheBankLaws :
    (QuietInSelfTest running ∧ BanksValid running ∧ GeometryLaw running ∧ RefsCounted running ∧ QueuesHeld running
      ∧ CopiesBoundRight running) ∧ ∃ t : State, step running = .next t :=
  ⟨⟨by decide, by decide, by decide, by decide, by decide, by decide⟩, _, rfl⟩

/-- A hub whose site 2 holds 23 entries, the bank their references, and a burst about to come. -/
def filling : State :=
  { with2 { holding .active (List.replicate 23 (waiting 9)) [] with
      head := { (holding .active (List.replicate 23 (waiting 9)) []).head with copied := 23 } } with
    pending := [.burst (workedBurst 2)]
    profiles := hubUp.profiles.set 0 ⟨.a, false, ⟨true, 23, worked⟩, Bank.reset worked⟩ }

/-- A step that leaves the flow state, and one that changes it. -/
theorem witness_StepsKeepCreditQueueAndFlow :
    ((CreditKept running ∧ ReportBounded running ∧ QuietInSelfTest running ∧ FlowAgrees running)
      ∧ ∃ t : State, step running = .next t)
    ∧ (CreditKept filling ∧ ReportBounded filling ∧ QuietInSelfTest filling ∧ FlowAgrees filling)
    ∧ step filling = .next (after (.burst (workedBurst 2)) { filling with pending := [] })
    ∧ (after (.burst (workedBurst 2)) { filling with pending := [] }).hub ≠ .selftest
    ∧ (after (.burst (workedBurst 2)) { filling with pending := [] }).flow ≠ filling.flow :=
  ⟨⟨by decide, _, rfl⟩, by decide, rfl, by decide, by decide⟩

theorem witness_StepsKeepLinksAndMarksWithTheirSites :
    (LinksFollow running ∧ ExpanderHoldsNewest running ∧ MarksScheduled running ∧ TrainingTimed running)
      ∧ ∃ t : State, step running = .next t := ⟨⟨by decide, fun i => by simp [(by decide : ∀ i : SiteIx, (running.site i).head.expander = .idle) i], by decide,
    by decide⟩, _, rfl⟩

theorem witness_StepsKeepRegionsSound :
    (RegionsSound running ∧ BanksValid running ∧ QueuesHeld running ∧ FreshBeforeJoin running ∧ VerdictAgrees running)
      ∧ ∃ t : State, step running = .next t :=
  ⟨⟨by decide, by decide, by decide, by decide, by decide⟩, _, rfl⟩

end Sys2Proof.Tests
end

section
/-! The walk of a burst (R26 to R29): each step is the Int walk reduced modulo 2^N, distinct steps below 2^N differ, and
the exchange of the two fields in ROW_FAST keeps them distinct. -/
namespace Sys2Proof.Machine

/-! ### The walk -/

/-- The step before reduction: up or down by `v` (R27, R28). -/
def Direction.step (start v : Int) : Direction → Int
  | .up => start + v
  | .down => start - v

/-- Counts that lead to one value modulo `m`, in either direction, agree modulo `m`. -/
theorem Direction.step_emod_cancel (direction : Direction) {start v u m : Int} :
    direction.step start v % m = direction.step start u % m ↔ v % m = u % m := by
  cases direction with
  | up => exact Int.emod_add_cancel_left
  | down => exact Int.emod_sub_cancel_left start

theorem walk_cast (direction : Direction) (width start v : Nat) :
    (walk direction width start v : Int) = direction.step start v % (2 ^ width : Nat) := by
  cases direction with
  | up => exact Int.natCast_emod (start + v) (2 ^ width)
  | down =>
    have modulus : ((2 ^ width : Nat) : Int) ≠ 0 := Int.natCast_ne_zero.mpr (Nat.ne_of_gt (Nat.two_pow_pos width))
    exact Int.toNat_of_nonneg (Int.emod_nonneg _ modulus)

theorem walk_lt (direction : Direction) (width start v : Nat) : walk direction width start v < 2 ^ width := by
  have modulus : (0 : Int) < (2 ^ width : Nat) := Int.natCast_pos.mpr (Nat.two_pow_pos width)
  have bound : (walk direction width start v : Int) < (2 ^ width : Nat) := by
    rw [walk_cast]
    exact Int.emod_lt_of_pos _ modulus
  exact Int.ofNat_lt.mp bound

/-- Fewer than 2^N steps of one walk never meet, since they meet only when their counts agree modulo 2^N. -/
theorem walk_injOn (direction : Direction) (width start : Nat) {v u : Nat} (hv : v < 2 ^ width) (hu : u < 2 ^ width)
    (h : walk direction width start v = walk direction width start u) : v = u := by
  have steps : direction.step start v % (2 ^ width : Nat) = direction.step start u % (2 ^ width : Nat) := by
    rw [← walk_cast, ← walk_cast, h]
  have counts : v % 2 ^ width = u % 2 ^ width := Int.ofNat_inj.mp (direction.step_emod_cancel.mp steps)
  rwa [Nat.mod_eq_of_lt hv, Nat.mod_eq_of_lt hu] at counts

/-! ### The exchange of row and column -/

/-- A transposed value, column above row, as a logical address, row above column (R28). -/
def exchangeFields (g : Geometry) (t : Nat) : Nat := t % 2 ^ g.rb * 2 ^ g.cb + t / 2 ^ g.rb

theorem transposedColumn_lt (g : Geometry) {t : Nat} (ht : t < 2 ^ g.n) : t / 2 ^ g.rb < 2 ^ g.cb :=
  Nat.div_lt_of_lt_mul (by rwa [← Nat.pow_add])

theorem exchangeFields_div (g : Geometry) {t : Nat} (ht : t < 2 ^ g.n) :
    exchangeFields g t / 2 ^ g.cb = t % 2 ^ g.rb := by
  rw [exchangeFields, Nat.mul_comm, Nat.mul_add_div (Nat.two_pow_pos _), Nat.div_eq_of_lt (transposedColumn_lt g ht),
    Nat.add_zero]

theorem exchangeFields_mod (g : Geometry) {t : Nat} (ht : t < 2 ^ g.n) :
    exchangeFields g t % 2 ^ g.cb = t / 2 ^ g.rb := by
  rw [exchangeFields, Nat.mul_add_mod', Nat.mod_eq_of_lt (transposedColumn_lt g ht)]

theorem exchangeFields_lt (g : Geometry) {t : Nat} (ht : t < 2 ^ g.n) : exchangeFields g t < 2 ^ g.n := by
  have row : exchangeFields g t / 2 ^ g.cb < 2 ^ g.rb := by
    rw [exchangeFields_div g ht]
    exact Nat.mod_lt _ (Nat.two_pow_pos _)
  rw [Geometry.n, Nat.pow_add]
  exact (Nat.div_lt_iff_lt_mul (Nat.two_pow_pos _)).mp row

theorem exchangeFields_injOn (g : Geometry) {t u : Nat} (ht : t < 2 ^ g.n) (hu : u < 2 ^ g.n)
    (h : exchangeFields g t = exchangeFields g u) : t = u := by
  have rows : t % 2 ^ g.rb = u % 2 ^ g.rb := by rw [← exchangeFields_div g ht, h, exchangeFields_div g hu]
  have columns : t / 2 ^ g.rb = u / 2 ^ g.rb := by rw [← exchangeFields_mod g ht, h, exchangeFields_mod g hu]
  rw [← Nat.div_add_mod t, rows, columns, Nat.div_add_mod]

/-! ### Logical addresses -/

/-- The value at which the walk of a burst starts: L0 of R27, T0 of R28. -/
def walkStart (g : Geometry) (d : Descriptor) : Nat :=
  match d.order with
  | .colFast => startRow g d * 2 ^ g.cb + startCol g d
  | .rowFast => startCol g d * 2 ^ g.rb + startRow g d

theorem logicalAddr_eq (g : Geometry) (d : Descriptor) (v : Nat) :
    logicalAddr g d v = match d.order with
      | .colFast => walk d.direction g.n (walkStart g d) v
      | .rowFast => exchangeFields g (walk d.direction g.n (walkStart g d) v) := by
  unfold logicalAddr walkStart
  cases d.order <;> rfl

theorem logicalAddr_lt (g : Geometry) (d : Descriptor) (v : Nat) : logicalAddr g d v < 2 ^ g.n := by
  have stepped := walk_lt d.direction g.n (walkStart g d) v
  rw [logicalAddr_eq]
  cases d.order with
  | colFast => exact stepped
  | rowFast => exact exchangeFields_lt g stepped

theorem logicalAddr_injOn (g : Geometry) (d : Descriptor) {v u : Nat} (hv : v < 2 ^ g.n) (hu : u < 2 ^ g.n)
    (h : logicalAddr g d v = logicalAddr g d u) : v = u := by
  refine walk_injOn d.direction g.n (walkStart g d) hv hu ?_
  rw [logicalAddr_eq, logicalAddr_eq] at h
  cases order : d.order with
  | colFast => simpa only [order] using h
  | rowFast => exact exchangeFields_injOn g (walk_lt ..) (walk_lt ..) (by simpa only [order] using h)

/-- The array holds at least 4096 cells, so the 64 vectors of the longest burst do not lap it (R4, R29). -/
theorem Geometry.burst_lt_of_inRange (g : Geometry) (h : g.inRange = true) : 64 < 2 ^ g.n := by
  simp only [Geometry.inRange, decide_eq_true_eq] at h
  calc 64 < 2 ^ 12 := by decide
    _ ≤ 2 ^ g.n := Nat.pow_le_pow_right (by decide) (by rw [Geometry.n]; omega)

/-- Settles O6: the walk is injective below 2^N, by congruence of its steps, and the exchange of fields is too. -/
theorem logicalAddressesOfABurstAreDistinct : Obligations.LogicalAddressesOfABurstAreDistinct := by
  refine ⟨fun g d v w range short hv hw => ?_, ?_⟩
  · have room := g.burst_lt_of_inRange range
    exact ⟨logicalAddr_lt g d v, fun ne same => ne (logicalAddr_injOn g d (by omega) (by omega) same)⟩
  · rintro g d v _ _ rfl rfl
    refine ⟨walkStart g d, walk d.direction g.n (walkStart g d) v, ?_, ?_, ?_⟩
    · unfold walkStart
      cases d.order <;> rfl
    · rw [walk_cast, Int.natCast_pow]
      cases d.direction <;> rfl
    · rw [logicalAddr_eq]
      cases d.order <;> rfl

end Sys2Proof.Machine
end

section
/-! The pin data of a vector (R30 to R34): which pins the fold over the data bits sets, and that the pin order of a bank that
passes validation sends each data bit to its own pin. -/
namespace Sys2Proof.Machine

/-! ### What validation gives -/

theorem firstNotPermuted_eq_none (n : Nat) (f : Nat → Nat) :
    firstNotPermuted n f = none ↔ ∀ i < n, f i < n ∧ ∀ j < i, f j ≠ f i := by
  simp [firstNotPermuted]

theorem firstNotPermuted_injOn {n : Nat} {f : Nat → Nat} (h : firstNotPermuted n f = none) {i j : Nat} (hi : i < n)
    (hj : j < n) (same : f i = f j) : i = j := by
  rw [firstNotPermuted_eq_none] at h
  rcases Nat.lt_trichotomy i j with lt | eq | gt
  · exact absurd same ((h j hj).2 i lt)
  · exact eq
  · exact absurd same.symm ((h i hi).2 j gt)

/-- A bank passes when none of the four checks fails (R16). -/
theorem Tables.validate_eq_none (t : Tables) :
    t.validate = none ↔ t.geometry.inRange = true
      ∧ firstNotPermuted t.geometry.n (fun i => (t.entry i).source) = none
      ∧ (List.range t.geometry.n).find? (fun i => !t.partnerOk i) = none
      ∧ firstNotPermuted t.geometry.w t.pinOf = none := by
  unfold Tables.validate
  cases t.geometry.inRange with
  | false => simp
  | true =>
    cases firstNotPermuted t.geometry.n (fun i => (t.entry i).source) with
    | some i => simp
    | none => cases (List.range t.geometry.n).find? (fun i => !t.partnerOk i) <;> simp

theorem Tables.pinOf_eq (t : Tables) (d : Fin 16) : t.pinOf d = t.pinOrder[d] := by
  simp [Tables.pinOf]

theorem Tables.pinOf_lt {t : Tables} (h : t.validate = none) {d : Nat} (hd : d < t.geometry.w) :
    t.pinOf d < t.geometry.w := by
  obtain ⟨-, -, -, order⟩ := t.validate_eq_none.mp h
  exact ((firstNotPermuted_eq_none _ _).mp order d hd).1

theorem Tables.pinOf_injOn {t : Tables} (h : t.validate = none) {d e : Nat} (hd : d < t.geometry.w)
    (he : e < t.geometry.w) (same : t.pinOf d = t.pinOf e) : d = e := by
  obtain ⟨-, -, -, order⟩ := t.validate_eq_none.mp h
  exact firstNotPermuted_injOn order hd he same

/-! ### The pin data -/

theorem testBit_foldl_or (g : Nat → Nat) (xs : List Nat) (start k : Nat) :
    (xs.foldl (fun word x => word ||| g x) start).testBit k = (start.testBit k || xs.any fun x => (g x).testBit k) := by
  induction xs generalizing start with
  | nil => simp
  | cons x xs ih => simp [ih, Bool.or_assoc]

/-- What data bit `d` puts on its pin: the bit, XOR f, XOR the pin's bit of PI (R33). -/
def Tables.pinLevel (t : Tables) (data : Nat) (f : Bool) (d : Nat) : Bool :=
  Bool.xor (Bool.xor (data.testBit d) f) (t.pi.getLsbD (t.pinOf d))

/-- A pin is set when some data bit below W drives it high. -/
theorem pinData_testBit (t : Tables) (data : Nat) (f : Bool) (k : Nat) :
    (pinData t data f).testBit k = true ↔ ∃ d < t.geometry.w, t.pinOf d = k ∧ t.pinLevel data f d = true := by
  have driven (d : Nat) : (if t.pinLevel data f d then 2 ^ t.pinOf d else 0).testBit k = true
      ↔ t.pinOf d = k ∧ t.pinLevel data f d = true := by
    cases t.pinLevel data f d <;> simp [Nat.testBit_two_pow]
  calc (pinData t data f).testBit k = true
    _ ↔ ((List.range t.geometry.w).any fun d =>
          (if t.pinLevel data f d then 2 ^ t.pinOf d else 0).testBit k) = true := by
        unfold pinData
        rw [testBit_foldl_or, Nat.zero_testBit, Bool.false_or]
        rfl
    _ ↔ ∃ d < t.geometry.w, t.pinOf d = k ∧ t.pinLevel data f d = true := by
        simp only [List.any_eq_true, List.mem_range, driven]

theorem pinData_lt {t : Tables} (h : t.validate = none) (data : Nat) (f : Bool) :
    pinData t data f < 2 ^ t.geometry.w := by
  refine Nat.lt_pow_two_of_testBit _ fun k above => Bool.eq_false_iff.mpr fun high => ?_
  obtain ⟨d, hd, pin, -⟩ := (pinData_testBit t data f k).mp high
  have := Tables.pinOf_lt h hd
  omega

theorem pinData_testBit_pinOf {t : Tables} (h : t.validate = none) (data : Nat) (f : Bool) {d : Nat}
    (hd : d < t.geometry.w) : (pinData t data f).testBit (t.pinOf d) = t.pinLevel data f d := by
  rw [Bool.eq_iff_iff, pinData_testBit]
  constructor
  · rintro ⟨e, he, same, level⟩
    rwa [← Tables.pinOf_injOn h he hd same]
  · exact fun level => ⟨d, hd, rfl, level⟩

/-! ### The vector -/

theorem patternData_eq (g : Geometry) (d : Descriptor) (v : Nat) :
    patternData g d v = if d.dataMode = .alternate ∧ v % 2 = 1 then 2 ^ g.w - 1 - dataWord g d else dataWord g d := by
  unfold patternData
  cases d.dataMode with
  | solid => simp
  | alternate => rcases Nat.mod_two_eq_zero_or_one v with even | odd <;> simp [*]

theorem parity_and_toNat {m : Nat} (w n : Nat) (mask : BitVec m) :
    parity w (n &&& mask.toNat)
      = decide (((List.range w).filter fun k => n.testBit k && mask.getLsbD k).length % 2 = 1) := by
  simp only [parity, popcount, Nat.testBit_and, BitVec.testBit_toNat]
  rfl

/-- Settles O8: a pin is high when some data bit drives it so, and in a bank that passes no second bit has that pin. -/
theorem pinDataDrivesEachPinOnce : Obligations.PinDataDrivesEachPinOnce := by
  refine ⟨fun t data f valid => ⟨pinData_lt valid data f, fun d hd => ?_⟩, ?_⟩
  · rw [← t.pinOf_eq]
    exact pinData_testBit_pinOf valid data f hd
  · rintro t d v _ _ _ _ rfl rfl rfl rfl
    rw [← parity_and_toNat, ← parity_and_toNat, ← dataWord, ← patternData_eq]
    rfl

end Sys2Proof.Machine
end

section
/-! The three resets (R83, R190): each ends with every site at `Site.reset` and no record in the Report Queue, whatever
becomes of the trunk link, the banks and the self-test. -/
namespace Sys2Proof.Machine

open Sys2Proof.Safety

/-! ### What the resets share -/

/-- Every site stands at its reset values and no record has been produced for one (R83). -/
def SitesReset (t : State) : Prop := t.report.queue = [] ∧ ∀ i : SiteIx, t.site i = Site.reset

theorem sitesReset_reset : SitesReset State.reset := ⟨rfl, fun _ => Vector.getElem_replicate _⟩

/-- The Report Queue and the sites alone decide it, so what a reset does to the other blocks does not matter. -/
theorem SitesReset.of_eq {s t : State} (h : SitesReset s) (report : t.report = s.report) (sites : t.sites = s.sites) :
    SitesReset t := by
  obtain ⟨empty, fresh⟩ := h
  refine ⟨by rw [report, empty], fun i => ?_⟩
  rw [← fresh i, State.site, sites, State.site]

theorem sitesReset_blocksReset (s : State) : SitesReset s.blocksReset := sitesReset_reset.of_eq rfl rfl

theorem sitesReset_hubReset (s : State) (skip : Bool) : SitesReset (s.hubReset skip) :=
  (sitesReset_blocksReset s).of_eq rfl rfl

theorem region_of_siteReset (g : RegionIx) : Site.reset.regions[g] = ⟨.clean, 0, 0, [], [], [], 0, 0, false⟩ :=
  Vector.getElem_replicate _

/-! ### What each reset answers -/

theorem exec_powerOnReset_sitesReset (s : State) : ∃ t : State, exec .powerOnReset s = .next t ∧ SitesReset t := by
  refine ⟨_, rfl, ?_⟩
  cases s.resetPin <;> exact (sitesReset_blocksReset s).of_eq rfl rfl

theorem exec_resetPin_sitesReset (s : State) : ∃ t : State, exec .resetPin s = .next t ∧ SitesReset t :=
  ⟨_, rfl, (sitesReset_blocksReset s).of_eq rfl rfl⟩

/-- A body of one item of one byte, 0 or 1, is read as the skip-self-test flag (R190, R195). -/
theorem hubResetOperand_flag {r : CtrlRequest} {skip : Bool} (h : r.body = [1, if skip then 1 else 0]) :
    hubResetOperand r = some skip := by
  rw [hubResetOperand, bodyItems, h]
  cases skip <;> rfl

theorem exec_hubReset_asked {s : State} {r : CtrlRequest} {rest : List CtrlRequest} {skip : Bool} (asked : Asked s 1 r rest)
    (body : r.body = [1, if skip then 1 else 0]) : exec .hubReset s = .next ((intakeLeft s rest).hubReset skip) := by
  obtain ⟨released, intake, kind⟩ := asked
  have taken : s.oldestRequest (fun k => decide (k = 1)) = some (r, intakeLeft s rest) := by
    simp [State.oldestRequest, intake, kind, intakeLeft]
  calc exec .hubReset s
    _ = execHubReset s := rfl
    _ = .next ((intakeLeft s rest).hubReset skip) := by
        rw [execHubReset, live_released s released]
        simp only [taken, hubResetOperand_flag body]

/-! ### The values -/

/-- Settles O11: each of the three resets leaves `Site.reset` at every site, whose fields are the values of R83. -/
theorem everySiteTakesItsResetValues : Obligations.EverySiteTakesItsResetValues := by
  intro s c isReset
  have answered : ∃ t : State, exec c s = .next t ∧ SitesReset t := by
    obtain rfl | rfl | ⟨rfl, r, rest, skip, asked, body⟩ := isReset
    · exact exec_powerOnReset_sitesReset s
    · exact exec_resetPin_sitesReset s
    · exact ⟨_, exec_hubReset_asked asked body, sitesReset_hubReset _ skip⟩
  obtain ⟨t, step, empty, fresh⟩ := answered
  refine ⟨t, step, empty, fun i => ?_⟩
  rw [fresh i]
  exact ⟨rfl, rfl, rfl, rfl, rfl, rfl, rfl, rfl, rfl, rfl, rfl, rfl, rfl, rfl, rfl, region_of_siteReset, rfl, rfl, rfl⟩

end Sys2Proof.Machine
end

section
/-! What a command can do to the sites, the banks and the pairs, said once: `SiteChange` lists the ways in which one site moves,
`Change` the ways in which the hub moves, and `exec_changes` finds each command among them. Every law of sites, banks and links
is then a statement about the list. -/
namespace Sys2Proof.Machine

open Sys2Proof.Safety

/-! ### Steps one after another -/

/-- Some steps of a relation, one after another. -/
inductive Runs {α : Type} (step : α → α → Prop) (a : α) : α → Prop
  | refl : Runs step a a
  | tail {b c : α} : Runs step a b → step b c → Runs step a c

theorem Runs.single {α : Type} {step : α → α → Prop} {a b : α} (h : step a b) : Runs step a b := .tail .refl h

theorem Runs.trans {α : Type} {step : α → α → Prop} {a b c : α} (h : Runs step a b) (h' : Runs step b c) : Runs step a c := by
  induction h' with
  | refl => exact h
  | tail _ last ih => exact ih.tail last

/-! ### One site -/

/-- A site without what no law speaks of: the options but for mode and initial offset, the counts of discarded frames, the latest
frame sent, the level of the mark line, the supply and the summary-pending flag. -/
def Site.essence (x : Site) : Site :=
  { x with
    config := { SiteConfig.reset with mode := x.config.mode, initialOffset := x.config.initialOffset }
    head := { x.head with trainRun := 0, fineLoss := 0, telemetryCheck := 0, unknownFrames := 0, sent := none }
    mapper := { x.mapper with malformed := 0, stray := 0, crc := 0 }
    marks := { x.marks with line := .low }
    supply := ⟨none, none, 0, 0⟩
    reports := { x.reports with summaryPending := false } }

/-- The site has joined, or will not before a site clear: it is neither in TRAINING nor in IDLE. What is known of the queues
when the command comes may be used for it. -/
abbrev Busy (known : Prop) (x : Site) : Prop := known → x.run.state ≠ .training ∧ x.run.state ≠ .idle

/-- A site with one more cell event taken by a region, and the verdict where the region turns UNREPAIRABLE (R108, R119). -/
def Site.withEvent (x : Site) (g : RegionIx) (r c : Nat) : Site :=
  { x with
    regions := x.regions.set g (x.regions[g].takeEvent r c)
    run := { x.run with
      unrepairable := x.run.unrepairable
        || decide (x.regions[g].state ≠ .unrepairable ∧ (x.regions[g].takeEvent r c).state = .unrepairable) } }

/-- A site with one update of the alignment loop (R137, R138). -/
def Site.withLoop (x : Site) (e : Int) : Site :=
  let step := loopStep x.config.gain x.config.errorMode e x.marks.offset x.marks.residual
  { x with
    marks := { x.marks with offset := step.1, residual := step.2.1 }
    run := { x.run with offsetSaturated := step.2.2 } }

/-- A Head Port whose link is driven down (R141). -/
def HeadPort.downed (h : HeadPort) : HeadPort :=
  { h with drive := .drivenDown, lock := .down, trainRun := 0, controlList := [], expander := .idle }

/-- The ways in which one site moves, `rs` being the banks of the copies that leave its keeping; `rate` is the rate class of its
pair. -/
inductive SiteChange (known : Prop) (rate : LinkRate) : List BankRef → Site → Site → Prop
  | minor {x y : Site} : y.essence = x.essence → SiteChange known rate [] x y
  | shown {x : Site} (g : RegionIx) :
      SiteChange known rate [] x { x with regions := x.regions.set g { x.regions[g] with summaryPending := false } }
  | incomplete {x : Site} : Busy known x →
      SiteChange known rate [] x { x with run := { x.run with mapIncomplete := true } }
  | cause {x : Site} (c : Cause) : Busy known x → SiteChange known rate [] x { x with run := withCause c x.run }
  | trainFail {x : Site} : x.run.state = .training → SiteChange known rate []
      x { x with run := { withCause .trainFail x.run with state := .retired, trainingLimit := none } }
  | retire {x : Site} :
      x.run.state = .armed ∨ x.run.state = .primed ∨ (x.run.state = .draining ∧ x.head.inFlight = []) →
      SiteChange known rate [] x (retiredSite x)
  | drain {x : Site} : x.run.state = .active → SiteChange known rate (x.head.launchQueue.map LaunchEntry.bound)
      x { x with
        run := { x.run with state := .draining }
        head := { x.head with
          launchQueue := [], flushed := (x.head.flushed + x.head.launchQueue.length) % 2 ^ 48 } }
  | abandon {x : Site} : x.run.state = .active ∨ x.run.state = .draining →
      SiteChange known rate (copiesLost x) x (abandonedSite x)
  | prime {x : Site} : x.run.state = .armed →
      SiteChange known rate [] x { x with run := { x.run with state := .primed } }
  | activate {x : Site} : x.run.state = .primed →
      SiteChange known rate [] x { x with run := { x.run with state := .active } }
  | schedule {x : Site} (m : LineMark) : x.run.state.marked = true →
      SiteChange known rate [] x { x with marks := { x.marks with scheduled := insertMark m x.marks.scheduled } }
  | takeMark {x : Site} {m : LineMark} {rest : List LineMark} : x.marks.scheduled = m :: rest →
      SiteChange known rate [] x { x with marks := { x.marks with scheduled := rest } }
  | launch {x : Site} {e : LaunchEntry} {rest : List LaunchEntry} (record : InFlight) (began : Nat) :
      x.head.launchQueue = e :: rest → record.bound = e.bound → x.run.state = .active → x.head.lock = .fine →
      x.head.inFlight.length < 16 → SiteChange known rate []
      x { x with head := { x.head with
        launchQueue := rest, inFlight := x.head.inFlight ++ [record], launched := (x.head.launched + 1) % 2 ^ 48,
        expander := .sending record began } }
  | endFrame {x : Site} : SiteChange known rate [] x { x with head := { x.head with expander := .idle } }
  | sendControl {x : Site} {kind : ControlKind} {rest : List ControlKind} (began : Nat) :
      x.head.lock = .fine → x.head.controlList = kind :: rest → SiteChange known rate []
      x { x with head := { x.head with controlList := rest, expander := .control kind began } }
  | unlink {x : Site} : x.run.state = .released →
      SiteChange known rate [] x { x with head := x.head.downed }
  | recognise {x : Site} : x.head.drive = .enabled → x.head.lock = .down →
      SiteChange known rate [] x { x with head := { x.head with lock := .coarse } }
  | fall {x : Site} : x.head.lock = .coarse →
      SiteChange known rate [] x { x with head := { x.head with lock := .down } }
  | gain {x : Site} : x.head.drive = .enabled → x.run.state ≠ .training →
      SiteChange known rate [] x { x with head := { x.head with lock := .fine } }
  | trained {x : Site} : x.run.state = .training → SiteChange known rate [] x { x with
      head := { x.head with lock := .fine }, run := { x.run with state := .idle, trainingLimit := none } }
  | unlock {x : Site} {target : LockState} :
      x.run.state = .training ∨ x.run.state = .disabled ∨ x.run.state = .retired → x.head.drive = .enabled →
      target ≠ .fine →
      SiteChange known rate [] x { x with head := { x.head with lock := target, expander := .idle } }
  | retrain {x : Site} {target : LockState} (limit : Nat) :
      x.run.state = .idle → x.head.drive = .enabled → target ≠ .fine → SiteChange known rate [] x { x with
        head := { x.head with lock := target, expander := .idle }
        run := { x.run with state := .training, trainingLimit := some limit } }
  | answered {x : Site} {k : Nat} : k < x.head.inFlight.length →
      SiteChange known rate ((x.head.inFlight.take (k + 1)).map InFlight.bound) x { x with
        head := { x.head with
          inFlight := x.head.inFlight.drop (k + 1)
          expander := if x.head.inFlight.length ≤ k + 1 then blockCut x.head.expander else x.head.expander }
        mapper := { x.mapper with lost := wrap48 x.mapper.lost k, answered := wrap48 x.mapper.answered 1 } }
  | counted {x : Site} (vectors bits admitted dropped : Nat) (gap failGap : Bool) : Busy known x →
      SiteChange known rate [] x { x with
        mapper := { x.mapper with failingVectors := vectors, failingBits := bits }
        reports := { x.reports with admitted := admitted, dropped := dropped, gapPending := gap }
        run := { x.run with failGap := failGap } }
  | event {x : Site} (g : RegionIx) (r c : Nat) : Busy known x → SiteChange known rate [] x (x.withEvent g r c)
  | loop {x : Site} (e : Int) : Busy known x → SiteChange known rate [] x (x.withLoop e)
  | setOffset {x : Site} {o : Nat} : o ≤ 4095 → SiteChange known rate [] x { x with
      config := { x.config with initialOffset := o }, marks := { x.marks with offset := o, residual := 0 } }
  | setProfile {x : Site} (k : ProfileIx) :
      x.run.state = .training ∨ x.run.state = .idle ∨ x.run.state = .retired →
      SiteChange known rate [] x { x with config := { x.config with mode := .profile k } }
  | disable {x : Site} :
      x.run.state = .training ∨ x.run.state = .idle ∨ x.run.state = .retired ∨ x.run.state = .released →
      SiteChange known rate [] x { x with
        config := { x.config with mode := .disabled }, head := x.head.downed
        run := { x.run with state := .disabled, trainingLimit := none } }
  | bringUp {x : Site} (k : ProfileIx) (limit : Nat) : x.run.state = .disabled ∨ x.run.state = .released →
      SiteChange known rate [] x { x.clear with
        config := { x.config with mode := .profile k }
        head := { x.clear.head.downed with drive := .enabled, rate := rate }
        run := { RunRecord.reset with state := .training, trainingLimit := some limit } }
  | clearIdle {x : Site} : x.run.state = .retired → x.head.lock = .fine →
      SiteChange known rate [] x { x.clear with run := { RunRecord.reset with state := .idle } }
  | clearTraining {x : Site} (limit : Nat) : x.run.state = .retired →
      SiteChange known rate [] x { x.clear with
        run := { RunRecord.reset with state := .training, trainingLimit := some limit } }
  | release {x : Site} : x.run.state = .retired → x.head.lock = .fine → SiteChange known rate [] x { x with
      run := { x.run with state := .released }
      head := { x.head with controlList := x.head.controlList ++ [.release] } }
  | releaseDown {x : Site} : x.run.state = .retired → SiteChange known rate [] x { x with
      run := { x.run with state := .released }, head := x.head.downed }

/-- Some changes of one site, one after another, with the banks of all the copies that leave. -/
inductive SiteSteps (known : Prop) (rate : LinkRate) : List BankRef → Site → Site → Prop
  | refl (x : Site) : SiteSteps known rate [] x x
  | step {rs qs : List BankRef} {x y z : Site} :
      SiteChange known rate rs x y → SiteSteps known rate qs y z → SiteSteps known rate (rs ++ qs) x z

variable {known : Prop} {rate : LinkRate} {rs qs : List BankRef} {x y z : Site}

theorem SiteChange.steps (h : SiteChange known rate rs x y) : SiteSteps known rate rs x y := by
  simpa using SiteSteps.step h (.refl y)

theorem SiteSteps.trans (h : SiteSteps known rate rs x y) (h' : SiteSteps known rate qs y z) :
    SiteSteps known rate (rs ++ qs) x z := by
  induction h with
  | refl _ => exact h'
  | step first _ ih => rw [List.append_assoc]; exact .step first (ih h')

/-- A change followed by one that no law sees. -/
theorem SiteSteps.minor (h : SiteSteps known rate rs x y) (same : z.essence = y.essence) : SiteSteps known rate rs x z := by
  simpa using h.trans (SiteChange.minor same).steps

theorem SiteSteps.snoc (h : SiteSteps known rate rs x y) (h' : SiteChange known rate [] y z) :
    SiteSteps known rate rs x z := by
  simpa using h.trans h'.steps

theorem SiteSteps.cons (h : SiteChange known rate [] x y) (h' : SiteSteps known rate rs y z) : SiteSteps known rate rs x z :=
  .step h h'

@[simp] theorem state_withCause (c : Cause) (r : RunRecord) : (withCause c r).state = r.state := by
  unfold withCause
  split
  · rfl
  · split <;> rfl

/-! ### The hub -/

/-- A change of the hub that leaves sites, banks and pairs as they are, and hub state, pin, self-test and waiting commands. -/
structure Aside (s t : State) : Prop where
  pending : t.pending = s.pending
  clock : s.clock ≤ t.clock
  resetPin : t.resetPin = s.resetPin
  hub : t.hub = s.hub
  selfTest : t.selfTest = s.selfTest
  sites : t.sites = s.sites
  profiles : t.profiles = s.profiles
  pairs : t.pairs = s.pairs

theorem Aside.refl (s : State) : Aside s s := ⟨rfl, Nat.le_refl _, rfl, rfl, rfl, rfl, rfl, rfl⟩

theorem Aside.trans {s t u : State} (h : Aside s t) (h' : Aside t u) : Aside s u :=
  ⟨h'.pending.trans h.pending, Nat.le_trans h.clock h'.clock, h'.resetPin.trans h.resetPin, h'.hub.trans h.hub,
    h'.selfTest.trans h.selfTest, h'.sites.trans h.sites, h'.profiles.trans h.profiles, h'.pairs.trans h.pairs⟩

theorem aside_readFlow (s : State) : Aside s s.readFlow := by
  rw [State.readFlow_frame]
  exact ⟨rfl, Nat.le_refl _, rfl, rfl, rfl, rfl, rfl, rfl⟩

theorem aside_enqueue (s : State) (r : Record) : Aside s (s.enqueue r) :=
  Aside.trans (t := { s with report := { s.report with queue := s.report.queue ++ [⟨r, s.clock⟩] } })
    ⟨rfl, Nat.le_refl _, rfl, rfl, rfl, rfl, rfl, rfl⟩ (aside_readFlow _)

theorem aside_respond (s : State) (r : CtrlRequest) (code : RespCode) (data : Option (List Item)) :
    Aside s (s.respond r code data) :=
  Aside.trans (t := { s with agent := { s.agent with overflowPending := false } })
    ⟨rfl, Nat.le_refl _, rfl, rfl, rfl, rfl, rfl, rfl⟩ (aside_enqueue _ _)

theorem aside_reach (s : State) (n : Nat) : Aside s (s.reach n) :=
  ⟨rfl, Nat.le_max_left _ _, rfl, rfl, rfl, rfl, rfl, rfl⟩

/-- The ways in which the hub moves at a command, its resets, its self-test, its HOLDOVER and the writing of a bank apart. -/
inductive Change (known : Prop) : State → State → Prop
  | aside {s t : State} : Aside s t → Change known s t
  | site {s : State} (i : SiteIx) {rs : List BankRef} {f : Site → Site} :
      SiteChange known (s.pairOf i).rate rs (s.site i) (f (s.site i)) → Change known s ((s.dropRefs rs).modSite i f)
  | copy {s : State} (i : SiteIx) (d : Descriptor) (k : ProfileIx) : (s.site i).run.state = .active →
      (s.site i).config.mode = .profile k → (s.site i).head.launchQueue.length < 32 → Change known s (s.copyBurst i d)
  | swap {s : State} (k : ProfileIx) : Change known s (s.modProfile k Profile.swap)
  | requestSwap {s : State} (k : ProfileIx) : (s.profile k).pendingSwap = false → (s.profile k).swapFailure = none →
      ¬((s.profile k).geometryDiffers = true ∧ s.geometryLocked k = true) →
      Change known s (s.modProfile k Profile.requestSwap)
  | setPair {s : State} (k : PairIx) (o : PairOptions) :
      ¬(o.rate.any (fun c => decide (c ≠ s.pairs[k].rate)) = true ∧ s.pairAtRest k = false) →
      Change known s (s.modPair k fun p => p.apply o)
  | join {s : State} (i : SiteIx) (k : ProfileIx) : (s.site i).run.state = .idle → (s.site i).config.mode = .profile k →
      (s.profile k).activeBank.valid = true →
      ¬((s.profile k).pendingSwap = true ∧ (s.profile k).geometryDiffers = true) →
      Change known s (s.join i (s.profile k).activeBank.tables.geometry)

/-- Some changes of the hub, one after another. -/
abbrev Changes (known : Prop) : State → State → Prop := Runs (Change known)

variable {s t u : State} {i : SiteIx}

theorem Changes.aside (h : Aside s t) : Changes known s t := .single (.aside h)

/-- The changes of one site are changes of the hub, the copies that leave being counted off their banks. -/
theorem Changes.steps {f : Site → Site} (h : SiteSteps known (s.pairOf i).rate rs (s.site i) (f (s.site i))) :
    Changes known s ((s.dropRefs rs).modSite i f) := by
  generalize hx : s.site i = x at h
  generalize hr : (s.pairOf i).rate = rate at h
  generalize hy : f x = y at h
  induction h generalizing s f with
  | refl x =>
    rw [State.dropRefs_nil, State.modSite_of_id _ _ (by rw [hx, hy])]
    exact .refl
  | @step rs qs x y z first rest ih =>
    subst hx hr
    have once : Change known s ((s.dropRefs rs).modSite i fun _ => y) := .site i first
    have drops : (s.dropRefs rs).pairOf i = s.pairOf i := by rw [State.dropRefs_frame]; rfl
    have more := ih (s := (s.dropRefs rs).modSite i fun _ => y) (f := fun _ => z) (by simp)
      (by rw [State.pairOf_modSite, drops]) rfl
    refine (Runs.single once).trans ?_
    have same : ((s.dropRefs (rs ++ qs)).modSite i f)
        = ((((s.dropRefs rs).modSite i fun _ => y).dropRefs qs).modSite i fun _ => z) := by
      rw [State.dropRefs_modSite, State.modSite_modSite, State.dropRefs_append]
      apply State.modSite_congr
      simp [hy]
    rw [same]
    exact more

theorem Changes.site {f : Site → Site} (h : SiteSteps known (s.pairOf i).rate [] (s.site i) (f (s.site i))) :
    Changes known s (s.modSite i f) := Changes.steps h

theorem Changes.minor {f : Site → Site} (h : (f (s.site i)).essence = (s.site i).essence) :
    Changes known s (s.modSite i f) := Changes.site (SiteChange.minor h).steps

theorem Changes.readFlow (h : Changes known s t) : Changes known s t.readFlow := h.trans (Changes.aside (aside_readFlow t))

theorem Changes.enqueue (h : Changes known s t) (r : Record) : Changes known s (t.enqueue r) :=
  h.trans (Changes.aside (aside_enqueue t r))

/-- A fold of operations that are all changes while a property lasts that they keep. -/
theorem Changes.foldl {α : Type} (f : State → α → State) (good : State → Prop) (xs : List α) (hs : good s)
    (h : ∀ (u : State) (a : α), a ∈ xs → good u → Changes known u (f u a) ∧ good (f u a)) :
    Changes known s (xs.foldl f s) := by
  induction xs generalizing s with
  | nil => exact .refl
  | cons a xs ih =>
    obtain ⟨first, kept⟩ := h s a (by simp) hs
    exact first.trans (ih kept fun u b hb => h u b (by simp [hb]))

end Sys2Proof.Machine
end

section
/-! Further shared operations, each said once as an update of one site, or of all sites, and of the profiles. -/
namespace Sys2Proof.Machine

open Sys2Proof.Safety

variable (s : State) (i : SiteIx)

/-! ### One update for each of some sites -/

/-- Each site of a list updated by a function of its own. -/
def State.modEach (s : State) (xs : List SiteIx) (f : SiteIx → Site → Site) : State :=
  xs.foldl (fun u i => u.modSite i (f i)) s

theorem State.modEach_frame (xs : List SiteIx) (f : SiteIx → Site → Site) :
    s.modEach xs f = { s with sites := (s.modEach xs f).sites } := by
  unfold State.modEach
  induction xs generalizing s with
  | nil => rfl
  | cons i xs ih => exact ih (s.modSite i (f i))

theorem State.site_modEach {xs : List SiteIx} (nodup : xs.Nodup) (f : SiteIx → Site → Site) (j : SiteIx) :
    (s.modEach xs f).site j = if j ∈ xs then f j (s.site j) else s.site j := by
  unfold State.modEach
  induction xs generalizing s with
  | nil => simp
  | cons i xs ih =>
    obtain ⟨fresh, nodup⟩ := List.nodup_cons.mp nodup
    rw [List.foldl_cons, ih _ nodup, State.site_modSite]
    by_cases h : j = i
    · subst h; simp [fresh]
    · simp [h]

theorem mem_allSites (j : SiteIx) : j ∈ allSites := by revert j; decide

theorem nodup_allSites : allSites.Nodup := by decide

@[simp] theorem State.site_modEach_allSites (f : SiteIx → Site → Site) (j : SiteIx) :
    (s.modEach allSites f).site j = f j (s.site j) := by
  simp [s.site_modEach nodup_allSites, mem_allSites]

/-- Some site meets a condition. -/
theorem any_allSites (p : SiteIx → Bool) : allSites.any p = true ↔ ∃ i : SiteIx, p i = true := by
  simp [List.any_eq_true, mem_allSites]

/-! ### Flags and causes -/

theorem State.giveMapIncomplete_eq : s.giveMapIncomplete i = s.modSite i fun x =>
    { x with
      run := { x.run with mapIncomplete := true }
      reports := { x.reports with summaryPending := x.reports.summaryPending || !x.run.mapIncomplete } } := by
  unfold State.giveMapIncomplete
  split
  · rename_i h
    rw [State.modSite_of_id]
    cases hx : s.site i with | mk _ run _ _ _ _ _ _ => cases run; simp_all
  · rename_i h
    simp only [State.modRun_eq, State.flagSite_eq, State.modSite_modSite]
    apply State.modSite_congr
    simp [h]

/-- A site moved by a mark point (R48, R70). -/
def Site.promoted (x : Site) : Site :=
  { x with
    run := { x.run with state := match x.run.state with
      | .armed => .primed
      | .primed => .active
      | st => st }
    reports := { x.reports with
      summaryPending := x.reports.summaryPending || decide (x.run.state = .armed ∨ x.run.state = .primed) } }

theorem State.promote_eq : s.promote i = s.modSite i Site.promoted := by
  unfold State.promote
  cases h : (s.site i).run.state with
  | primed => simp only [State.enter_eq]; apply State.modSite_congr; simp [Site.promoted, h]
  | armed => simp only [State.enter_eq]; apply State.modSite_congr; simp [Site.promoted, h]
  | _ =>
    simp only
    rw [State.modSite_of_id]
    cases hx : s.site i with | mk _ run _ _ _ _ _ _ => cases run; simp_all [Site.promoted]

theorem State.promoteAll_eq : allSites.foldl State.promote s = s.modEach allSites fun _ => Site.promoted := by
  unfold State.modEach
  congr 1
  funext u j
  exact u.promote_eq j

/-- A sequence gap gives MAP_INCOMPLETE to a site that is ACTIVE (R42). -/
def Site.gapSeen (x : Site) : Site :=
  if x.run.state = .active then { x with
      run := { x.run with mapIncomplete := true }
      reports := { x.reports with summaryPending := x.reports.summaryPending || !x.run.mapIncomplete } }
  else x

theorem State.sequenceGap_eq : s.sequenceGap = ({ s with
    sorter := { s.sorter with sequenceGaps := sat32 s.sorter.sequenceGaps 1 } } : State).modEach allSites
      fun _ => Site.gapSeen := by
  unfold State.sequenceGap State.modEach
  congr 1
  funext u j
  split
  · rename_i h; rw [State.giveMapIncomplete_eq]; apply State.modSite_congr; simp [Site.gapSeen, h]
  · rename_i h; rw [State.modSite_of_id]; simp [Site.gapSeen, h]

/-! ### Line marks -/

/-- A site with a line mark scheduled at an instant plus its offset (R131, R132). -/
def Site.scheduled (x : Site) (instant width : Nat) : Site :=
  { x with marks := { x.marks with scheduled := insertMark ⟨instant + x.marks.offset, width⟩ x.marks.scheduled } }

/-- A site served at a series point (R131). -/
def Site.served (x : Site) (instant : Nat) (leftOut : Bool) : Site :=
  if x.run.state.marked = true ∧ leftOut = false then x.scheduled instant 8 else x

theorem State.seriesPointAt_eq (instant : Nat) (leftOut : List SiteIx) : s.seriesPointAt instant leftOut =
    s.modEach allSites fun j x => x.served instant (decide (j ∈ leftOut)) := by
  unfold State.seriesPointAt State.modEach
  congr 1
  funext u j
  split
  · rename_i h; rw [State.scheduleMark_eq]; apply State.modSite_congr; simp [Site.served, Site.scheduled, h]
  · rename_i h; rw [State.modSite_of_id]; simpa [Site.served] using fun a b => absurd ⟨a, b⟩ h

/-- The lifecycle mark of a site, by the state that it comes from (R132). -/
def Site.lifecycle (x : Site) (before : SiteState) (instant : Nat) : Site :=
  (lifecycleWidth before).elim x (x.scheduled instant)

theorem State.lifecycle_eq (before : SiteIx → SiteState) (instant : Nat) :
    (allSites.filterMap fun i => (lifecycleWidth (before i)).map fun w => (i, w)).foldl
      (fun t p => t.scheduleMark p.1 instant p.2) s
    = s.modEach allSites fun j x => x.lifecycle (before j) instant := by
  unfold State.modEach
  rw [List.foldl_filterMap]
  congr 1
  funext u j
  cases h : lifecycleWidth (before j) with
  | none => simp [Site.lifecycle, h]
  | some w => simp only [Option.map_some, State.scheduleMark_eq, Site.lifecycle, h, Option.elim_some]; rfl

/-! ### Regions -/

/-- A site whose verdict a condemned region has just brought: the flag of the site is set with it (R119). -/
def Site.newlyCondemned (x : Site) (g : RegionIx) (r c : Nat) : Bool :=
  decide (x.regions[g].state ≠ .unrepairable ∧ (x.regions[g].takeEvent r c).state = .unrepairable)
    && !x.run.unrepairable

/-- A site with a cell event taken, and flagged when that brings the verdict (R108, R119). -/
def Site.judged (x : Site) (g : RegionIx) (r c : Nat) : Site :=
  { x.withEvent g r c with
    reports := { x.reports with summaryPending := x.reports.summaryPending || x.newlyCondemned g r c } }

/-- A cell event: the region takes it, and the first region that turns UNREPAIRABLE raises the cause where the option asks for it
(R78, R108, R119). -/
theorem State.cellEvent_eq (g : RegionIx) (r c : Nat) : s.cellEvent i g r c =
    if (s.site i).newlyCondemned g r c ∧ (s.site i).config.retireOnUnrepairable then
      (s.modSite i fun x => x.judged g r c).raiseCause i .unrepairable
    else s.modSite i fun x => x.judged g r c := by
  unfold State.cellEvent
  by_cases turned : (s.site i).regions[g].state ≠ .unrepairable
      ∧ ((s.site i).regions[g].takeEvent r c).state = .unrepairable
  · have turns : (s.site i).regions[g].state ≠ .unrepairable ∧
        ((s.modRegion i g fun x => x.takeEvent r c).site i).regions[g].state = .unrepairable := by simpa using turned
    rw [if_pos turns]
    unfold State.verdict
    by_cases known : (s.site i).run.unrepairable
    · have old : (s.site i).newlyCondemned g r c = false := by simp [Site.newlyCondemned, known]
      simp only [State.modRegion_eq, State.site_modSite_same, known, if_true, old]
      simp only [Bool.false_eq_true, false_and, if_false]
      apply State.modSite_congr
      simp [Site.judged, Site.withEvent, old, known]
      cases hx : (s.site i).run; simp_all
    · have new : (s.site i).newlyCondemned g r c = true := by
        simp only [Site.newlyCondemned, decide_eq_true turned, eq_false_of_ne_true known, Bool.not_false, Bool.and_true]
      have same : ((s.modRegion i g fun x => x.takeEvent r c).modRun i fun q => { q with unrepairable := true }).flagSite i
          = s.modSite i fun x => x.judged g r c := by
        simp only [State.modRegion_eq, State.modRun_eq, State.flagSite_eq, State.modSite_modSite]
        apply State.modSite_congr
        simp only [Site.judged, Site.withEvent, new, decide_eq_true turned, Bool.or_true]
      simp only [same]
      simp [known, new]
  · have turns : ¬((s.site i).regions[g].state ≠ .unrepairable ∧
        ((s.modRegion i g fun x => x.takeEvent r c).site i).regions[g].state = .unrepairable) := by simpa using turned
    have old : (s.site i).newlyCondemned g r c = false := by
      simp only [Site.newlyCondemned, decide_eq_false turned, Bool.false_and]
    simp only [if_neg turns, old, Bool.false_eq_true, false_and, if_false]
    apply State.modSite_congr
    simp only [Site.judged, Site.withEvent, old, decide_eq_false turned, Bool.or_false]

/-! ### The alignment loop -/

/-- An update of the loop, the site flagged where it saturates newly (R137, R138). -/
theorem State.loopUpdate_eq (e : Int) : s.loopUpdate i e = s.modSite i fun x =>
    { x.withLoop e with reports := { x.reports with
      summaryPending := x.reports.summaryPending
        || ((loopStep x.config.gain x.config.errorMode e x.marks.offset x.marks.residual).2.2
          && !x.run.offsetSaturated) } } := by
  unfold State.loopUpdate
  simp only [State.modMarks_eq, State.modRun_eq, State.flagSite_eq, State.modSite_modSite]
  split
  · rename_i h; apply State.modSite_congr; simp only [h, Bool.or_true]; rfl
  · rename_i h; apply State.modSite_congr; simp only [h, Bool.or_false]; rfl

/-! ### Records in flight -/

/-- The records up to the match leave the list, and the frame of one that is being sent is cut short (R37, R88, R89). -/
theorem State.retireRecords_eq (k : Nat) : s.retireRecords i k =
    (s.dropRefs (((s.site i).head.inFlight.take (k + 1)).map InFlight.bound)).modSite i fun x =>
      { x with
        head := { x.head with
          inFlight := x.head.inFlight.drop (k + 1)
          expander := if x.head.inFlight.length ≤ k + 1 then blockCut x.head.expander else x.head.expander
          sent := if x.head.inFlight.length ≤ k + 1 then lastBlock s i else x.head.sent }
        mapper := { x.mapper with lost := wrap48 x.mapper.lost k, answered := wrap48 x.mapper.answered 1 } } := by
  unfold State.retireRecords State.abortAnswered
  split
  · rename_i h
    simp only [State.abortBlock_eq, State.dropRefs_modSite, State.modHead_eq, State.modMapper_eq, State.modSite_modSite]
    apply State.modSite_congr
    simp [h]
  · rename_i h
    simp only [State.modHead_eq, State.modMapper_eq, State.modSite_modSite]
    apply State.modSite_congr
    simp [h]

/-! ### Requests -/

/-- A site brought up from a driven-down link (R64, R65, R66). -/
theorem State.bringUp_eq (m : SiteMode) : s.bringUp i m = s.modSite i fun x =>
    { x.clear with
      config := { x.config with mode := m }
      head := { x.clear.head.downed with drive := .enabled, rate := (s.pairOf i).rate, sent := lastSent s i .cutOff }
      run := { RunRecord.reset with state := .training, trainingLimit := some (s.clock + Config.trainingLimit) }
      supply := { x.clear.supply with latest := none } } := by
  simp only [State.bringUp, State.linkDown_eq, State.modConfig_eq, State.siteClear_eq, State.linkUp_eq,
    State.enterTraining_eq, State.modSite_modSite, State.pairOf_modSite, State.clock_modSite]
  rfl

/-- A site disabled (R64). -/
theorem State.disable_eq : s.disable i = s.modSite i fun x =>
    { x with
      config := { x.config with mode := .disabled }
      head := { x.head.downed with sent := lastSent s i .cutOff }
      run := { x.run with state := .disabled, trainingLimit := none }
      supply := { x.supply with latest := none }
      reports := { x.reports with summaryPending := true } } := by
  simp only [State.disable, State.linkDown_eq, State.modConfig_eq, State.modRun_eq, State.enter_eq, State.modSite_modSite]
  rfl

/-- A RETIRED site cleared (R65, R80). -/
theorem State.clearRetired_eq : s.clearRetired i = s.modSite i fun x =>
    { x.clear with
      run := if x.head.lock = .fine then { RunRecord.reset with state := .idle }
        else { RunRecord.reset with state := .training, trainingLimit := some (s.clock + Config.trainingLimit) } } := by
  unfold State.clearRetired
  split
  · rename_i h
    simp only [State.siteClear_eq, State.enter_eq, State.modSite_modSite]
    apply State.modSite_congr
    simp [Site.clear, h]
  · rename_i h
    simp only [State.siteClear_eq, State.enterTraining_eq, State.modSite_modSite]
    apply State.modSite_congr
    simp [Site.clear, h]

/-- A RETIRED site released (R81). -/
theorem State.release_eq : s.release i = s.modSite i fun x =>
    { x with
      run := { x.run with state := .released }
      head := if x.head.lock = .fine then { x.head with controlList := x.head.controlList ++ [.release] }
        else { x.head.downed with sent := lastSent s i .cutOff }
      supply := if x.head.lock = .fine then x.supply else { x.supply with latest := none }
      reports := { x.reports with summaryPending := true } } := by
  unfold State.release
  split
  · rename_i h
    simp only [State.enter_eq, State.raiseControl_eq, State.modSite_modSite]
    apply State.modSite_congr
    simp [h, raiseOn]
  · rename_i h
    rw [State.linkDown_eq, lastSent_congr (s := s) .cutOff]
    · simp only [State.enter_eq, State.modSite_modSite]
      apply State.modSite_congr
      simp [h, HeadPort.downed]
    all_goals simp [State.enter_eq]

theorem State.join_eq (g : Geometry) : s.join i g = s.modSite i fun x => { x with
    run := { x.run with joinGeometry := some g, state := .armed }
    regions := layOutAll g x.regions
    supply := { x.supply with peak := some 0, overCount := 0, blanking := (s.pairOf i).blanking }
    head := { x.head with controlList := x.head.controlList ++ [.powerOn] }
    reports := { x.reports with summaryPending := true } } := by
  simp only [State.join, State.raiseControl_eq, State.enter_eq, State.modSite_modSite]
  apply State.modSite_congr
  simp [raiseOn]

/-- The options that SET_SITE sets without raising a cause (R180). -/
theorem State.applyOptions_eq (o : SiteOptions) : s.applyOptions i o =
    (o.retire.elim s (s.setRetireOption i)).modSite i fun x =>
      { x with config := x.config.apply o, marks := x.marks.setOffset o.offset } := by
  simp [State.applyOptions]

end Sys2Proof.Machine
end

section
/-! Each command among the changes of the hub: the shared operations first, then the commands one by one (`exec_changes`), the
resets, the end of a self-test, HOLDOVER and the writing of a bank apart (`exec_upheaval`). -/
namespace Sys2Proof.Machine

open Sys2Proof.Safety

variable {known : Prop} {s t u : State} {i : SiteIx}

/-! ### Causes -/

/-- A chain of changes at the end of which the site is still past its joining. -/
def BusyChanges (known : Prop) (i : SiteIx) (s t : State) : Prop := Changes known s t ∧ Busy known (t.site i)

theorem BusyChanges.trans (h : BusyChanges known i s t) (h' : BusyChanges known i t u) : BusyChanges known i s u :=
  ⟨h.1.trans h'.1, h'.2⟩


theorem changes_recordCause (c : Cause) (busy : Busy known (s.site i)) : BusyChanges known i s (s.recordCause i c) := by
  rw [State.recordCause_eq]
  refine ⟨Changes.site ((SiteChange.cause c busy).steps.minor rfl), fun h => ?_⟩
  simpa using busy h

theorem busy_of_state {x : Site} {st : SiteState} (h : x.run.state = st) (h' : st ≠ .training ∧ st ≠ .idle) :
    Busy known x := fun _ => h ▸ h'

theorem changes_startDrain (h : (s.site i).run.state = .active) : BusyChanges known i s (s.startDrain i) := by
  rw [State.startDrain_eq]
  have drained := (SiteChange.drain (known := known) (rate := (s.pairOf i).rate) h).steps
  refine ⟨Changes.steps ?_, ?_⟩
  · simp only
    split
    · rename_i empty
      exact (drained.snoc (.retire (.inr (.inr ⟨rfl, empty⟩)))).minor rfl
    · exact drained.minor rfl
  · rw [State.site_modSite_same]
    simp only
    split
    · exact busy_of_state (st := .retired) rfl (by decide)
    · exact busy_of_state (st := .draining) rfl (by decide)

theorem changes_endDrain : Changes known s (s.endDrain i) := by
  rw [State.endDrain_eq]
  apply Changes.site
  split
  · rename_i h
    exact (SiteChange.retire (.inr (.inr h))).steps
  · exact .refl _

/-- A cause against a site, by its kind and the site's state (R71); none takes the site to TRAINING or IDLE. -/
theorem changes_raiseCauseQuiet (c : Cause) (busy : Busy known (s.site i)) :
    BusyChanges known i s (s.raiseCauseQuiet i c) := by
  by_cases resting : (s.site i).run.state.inTest = false ∨ c.kind = .neither
      ∨ ((s.site i).run.state = .draining ∧ c.kind = .draining)
  · rw [State.raiseCauseQuiet_recorded _ _ _ resting]
    exact changes_recordCause c busy
  obtain ⟨inTest, kind, notDrained⟩ : (s.site i).run.state.inTest = true ∧ c.kind ≠ .neither
      ∧ ¬((s.site i).run.state = .draining ∧ c.kind = .draining) := by simpa [not_or] using resting
  have recorded := (SiteChange.cause (rate := (s.pairOf i).rate) c busy).steps
  by_cases before : (s.site i).run.state = .armed ∨ (s.site i).run.state = .primed
  · rw [State.raiseCauseQuiet_before _ _ _ kind before]
    refine ⟨Changes.site (recorded.snoc (.retire (by simpa [or_assoc] using Or.inl before))), ?_⟩
    rw [State.site_modSite_same]
    exact busy_of_state (st := .retired) rfl (by decide)
  have running : (s.site i).run.state = .active ∨ (s.site i).run.state = .draining := by
    revert inTest before
    cases (s.site i).run.state <;> simp [SiteState.inTest]
  by_cases abandoning : c.kind = .abandoning
  · rw [State.raiseCauseQuiet_abandoning _ _ _ abandoning running]
    have sent := recorded.minor (z := { s.site i with
      run := withCause c (s.site i).run, head := { (s.site i).head with sent := lastBlock s i } }) rfl
    have gone := sent.trans (SiteChange.abandon (by simpa using running)).steps
    have same : copiesLost { s.site i with
        run := withCause c (s.site i).run, head := { (s.site i).head with sent := lastBlock s i } }
        = copiesLost (s.site i) := by simp [copiesLost]
    rw [same] at gone
    refine ⟨Changes.steps gone, ?_⟩
    rw [State.site_modSite_same]
    exact busy_of_state (st := .retired) rfl (by decide)
  · have draining : c.kind = .draining := by
      revert kind abandoning
      cases c.kind <;> simp
    have active : (s.site i).run.state = .active := running.resolve_right fun h => notDrained ⟨h, draining⟩
    rw [State.raiseCauseQuiet_draining _ _ _ draining active]
    refine (changes_recordCause c busy).trans (changes_startDrain ?_)
    rw [State.recordCause_eq]
    simpa using active

theorem changes_raiseCause (c : Cause) (busy : Busy known (s.site i)) : BusyChanges known i s (s.raiseCause i c) := by
  have quiet := changes_raiseCauseQuiet c busy
  exact ⟨quiet.1.readFlow, by rw [State.raiseCause, State.site_readFlow]; exact quiet.2⟩

theorem busy_of_inTest {x : Site} (h : x.run.state.inTest = true) : Busy known x := by
  intro _
  revert h
  cases x.run.state <;> simp [SiteState.inTest]

/-! ### Results -/

theorem BusyChanges.foldl {α : Type} (f : State → α → State) (xs : List α) (busy : Busy known (s.site i))
    (h : ∀ (u : State) (a : α), Busy known (u.site i) → BusyChanges known i u (f u a)) :
    BusyChanges known i s (xs.foldl f s) := by
  induction xs generalizing s with
  | nil => exact ⟨.refl, busy⟩
  | cons a xs ih => exact (h s a busy).trans (ih (h s a busy).2)

theorem busyChanges_cellEvent (g : RegionIx) (r c : Nat) (busy : Busy known (s.site i)) :
    BusyChanges known i s (s.cellEvent i g r c) := by
  have taken : BusyChanges known i s (s.modSite i fun x => x.judged g r c) :=
    ⟨Changes.site ((SiteChange.event g r c busy).steps.minor rfl), by rw [State.site_modSite_same]; exact busy⟩
  rw [State.cellEvent_eq]
  split
  · exact taken.trans (changes_raiseCause _ taken.2)
  · exact taken

theorem busyChanges_offerFail (r : FailRecord) (busy : Busy known (s.site i)) :
    BusyChanges known i s (s.offerFail i r) := by
  have counted (admitted dropped : Nat) (gap failGap : Bool) := SiteChange.counted (rate := (s.pairOf i).rate)
    (s.site i).mapper.failingVectors (s.site i).mapper.failingBits admitted dropped gap failGap busy
  unfold State.offerFail
  split
  · split
    · unfold State.admitFail
      refine ⟨Changes.enqueue (Changes.site ((counted _ _ _ _).steps)) _, ?_⟩
      rw [State.site_enqueue, State.modReports_eq, State.site_modSite_same]
      exact busy
    · unfold State.dropFail
      simp only
      split
      · exact ⟨Changes.site (counted _ _ _ _).steps, by rw [State.modReports_eq, State.site_modSite_same]; exact busy⟩
      · refine ⟨?_, ?_⟩
        · simp only [State.modReports_eq, State.modRun_eq, State.flagSite_eq, State.modSite_modSite]
          exact Changes.site ((counted _ _ _ true).steps.minor rfl)
        · simp only [State.modReports_eq, State.modRun_eq, State.flagSite_eq, State.modSite_modSite,
            State.site_modSite_same]
          exact busy
  · exact ⟨.refl, busy⟩

theorem busyChanges_mapEntry (t : Tables) (d : Descriptor) (v : Nat) (mask : Half) (busy : Busy known (s.site i)) :
    BusyChanges known i s (s.mapEntry i t d v mask) := by
  unfold State.mapEntry
  simp only
  split
  · exact ⟨.refl, busy⟩
  · have counted : BusyChanges known i s (s.countFails i (popcount t.geometry.w (effectiveMask t mask))) := by
      rw [State.countFails, State.modMapper_eq]
      refine ⟨Changes.site (SiteChange.counted _ _ (s.site i).reports.admitted (s.site i).reports.dropped
        (s.site i).reports.gapPending (s.site i).run.failGap busy).steps, ?_⟩
      rw [State.site_modSite_same]
      exact busy
    have offered := counted.trans (busyChanges_offerFail
      ⟨i, d.tag, v, physRow t d v, physCol t d v, effectiveMask t mask, false⟩ counted.2)
    exact offered.trans (BusyChanges.foldl _ _ offered.2 fun u k h => busyChanges_cellEvent _ _ _ h)

theorem busyChanges_takeFails (t : Tables) (d : Descriptor) (es : List FailEntry) (busy : Busy known (s.site i)) :
    BusyChanges known i s (s.takeFails i t d es) := by
  unfold State.takeFails
  generalize (none : Option Nat) = last
  induction es generalizing s last with
  | nil => exact ⟨.refl, busy⟩
  | cons e es ih =>
    rw [List.foldl_cons]
    unfold State.takeEntry
    split
    · have counted : BusyChanges known i s
          (s.modMapper i fun m => { m with malformed := sat32 m.malformed 1 }) := by
        rw [State.modMapper_eq]
        exact ⟨Changes.minor rfl, by rw [State.site_modSite_same]; exact busy⟩
      exact counted.trans (ih counted.2 _)
    · have mapped := busyChanges_mapEntry t d (vectorIndex e) e.mask busy
      exact mapped.trans (ih mapped.2 _)

theorem changes_giveMapIncomplete (busy : Busy known (s.site i)) : BusyChanges known i s (s.giveMapIncomplete i) := by
  rw [State.giveMapIncomplete_eq]
  exact ⟨Changes.site ((SiteChange.incomplete busy).steps.minor rfl), by rw [State.site_modSite_same]; exact busy⟩

theorem changes_retireRecords {k : Nat} (h : k < (s.site i).head.inFlight.length) :
    Changes known s (s.retireRecords i k) := by
  rw [State.retireRecords_eq]
  exact Changes.steps ((SiteChange.answered h).steps.minor rfl)

theorem changes_takeMatch {k : Nat} {record : InFlight} {done : Bool} {es : List FailEntry}
    (h : k < (s.site i).head.inFlight.length) (busy : Busy known (s.site i)) :
    Changes known s (s.takeMatch i k record done es) := by
  unfold State.takeMatch
  simp only
  refine Runs.trans ?_ changes_endDrain
  have retired : BusyChanges known i s (s.retireRecords i k) :=
    ⟨changes_retireRecords h, by rw [State.retireRecords_eq, State.site_modSite_same]; simpa using busy⟩
  have flagged : BusyChanges known i s
      (if 0 < k ∨ done = false then (s.retireRecords i k).giveMapIncomplete i else s.retireRecords i k) := by
    split
    · exact retired.trans (changes_giveMapIncomplete retired.2)
    · exact retired
  cases done with
  | true => exact (flagged.trans (busyChanges_takeFails _ _ _ flagged.2)).1
  | false => exact flagged.1

theorem changes_resultFrame (f : Option ResultFrame) (busy : (s.site i).head.inFlight ≠ [] → Busy known (s.site i)) :
    Changes known s (s.resultFrame i f) := by
  unfold State.resultFrame
  split
  · split
    · split
      · unfold State.takeResult
        split
        · split
          · rename_i k hm record hk
            have hlt := (List.getElem?_eq_some_iff.mp hk).1
            exact changes_takeMatch hlt (busy (List.ne_nil_of_length_pos (by omega)))
          · exact .refl
        · exact Changes.minor rfl
      · exact Changes.minor rfl
    · exact Changes.minor rfl
  · exact Changes.minor rfl

/-! ### Telemetry -/

theorem changes_takePhase (stood : SiteState) (e : Int) (busy : stood.marked = true → Busy known (s.site i)) :
    Changes known s (s.takePhase i stood e) := by
  unfold State.takePhase
  split
  · rename_i h
    rw [State.loopUpdate_eq]
    exact Changes.site ((SiteChange.loop e (busy h.1)).steps.minor rfl)
  · exact .refl

theorem changes_takeSample (current : Nat) : Changes known s (s.takeSample i current)
    ∧ (Busy known (s.site i) → Busy known ((s.takeSample i current).site i)) := by
  unfold State.takeSample
  have noted : Changes known s (s.noteCurrent i current) := by
    rw [State.noteCurrent, State.modSupply_eq]
    exact Changes.minor rfl
  have site : ((s.noteCurrent i current).site i).run = (s.site i).run := by simp [State.noteCurrent]
  simp only
  split
  · rename_i inTest
    split
    · exact ⟨noted.trans (Changes.minor rfl), fun busy => by simpa [State.noteCurrent] using busy⟩
    · unfold State.compareSample
      simp only
      split
      · have above := noted.trans (Changes.minor (known := known) (i := i) (s := s.noteCurrent i current)
          (f := fun x => { x with supply := { x.supply with
            overCount := overAfter ((s.noteCurrent i current).site i).supply.overCount current
              ((s.noteCurrent i current).pairOf i).tripLevel } }) rfl)
        have busy : Busy known (((s.noteCurrent i current).modSite i fun x => { x with supply := { x.supply with
            overCount := overAfter ((s.noteCurrent i current).site i).supply.overCount current
              ((s.noteCurrent i current).pairOf i).tripLevel } }).site i) :=
          busy_of_inTest (by simpa [State.noteCurrent] using inTest)
        refine ⟨above.trans (changes_raiseCause _ busy).1, fun _ => (changes_raiseCause _ busy).2⟩
      · exact ⟨noted.trans (Changes.minor rfl), fun busy => by simpa [State.noteCurrent] using busy⟩
  · exact ⟨noted, fun busy => by simpa [State.noteCurrent] using busy⟩

theorem busy_of_marked {x : Site} (h : x.run.state.marked = true) : Busy known x := by
  intro _
  revert h
  cases x.run.state <;> simp [SiteState.marked]

theorem changes_telemetryFrame (f : Option TelemetryFrame) : Changes known s (s.telemetryFrame i f) := by
  unfold State.telemetryFrame
  split
  · rename_i current phase _
    obtain ⟨sampled, busy⟩ := changes_takeSample (known := known) (s := s) (i := i) current
    refine sampled.trans ?_
    unfold State.sampleTaken
    split
    · exact .refl
    · split
      · exact changes_takePhase _ _ fun h => busy (busy_of_marked h)
      · rename_i e moved
        have marked : (s.site i).run.state.marked = true := by
          simp only [not_or] at moved
          simpa using moved.2
        have drawn : Changes known (s.takeSample i current)
            { s.takeSample i current with freeIndex := (s.takeSample i current).freeIndex + 1 } :=
          Changes.aside ⟨rfl, Nat.le_refl _, rfl, rfl, rfl, rfl, rfl, rfl⟩
        exact drawn.trans (changes_takePhase _ _ fun _ => busy (busy_of_marked marked))
  · exact Changes.minor rfl

/-! ### Links -/

theorem changes_linkDown (h : (s.site i).run.state = .released) : Changes known s (s.linkDown i) := by
  rw [State.linkDown_eq]
  exact Changes.site ((SiteChange.unlink h).steps.minor rfl)

theorem changes_gainFine (h : (s.site i).head.drive = .enabled) : Changes known s (s.gainFine i) := by
  rw [State.gainFine_eq]
  apply Changes.site
  by_cases training : (s.site i).run.state = .training
  · simp only [training, if_true]
    exact (SiteChange.trained training).steps.minor rfl
  · simp only [training, if_false]
    exact (SiteChange.gain h training).steps.minor rfl

theorem changes_coarseFrame (good : Bool) (h : (s.site i).head.drive = .enabled) :
    Changes known s (s.coarseFrame i good) := by
  unfold State.coarseFrame
  split
  · split
    · exact changes_gainFine h
    · exact Changes.minor rfl
  · exact Changes.minor rfl

end Sys2Proof.Machine
end

section
/-! The commands one by one among the changes of the hub. -/
namespace Sys2Proof.Machine

open Sys2Proof.Safety

variable {known : Prop} {s t u : State} {i : SiteIx}

/-- A command whose effect is some changes makes no others, under a held pin either. -/
theorem changes_live {f : State → State} (h : Changes known s (f s)) (next : live s f = .next t) : Changes known s t := by
  rcases live_eq_next s t f next with rfl | rfl
  · exact .refl
  · exact h

/-! ### What touches no site, bank or pair -/

theorem aside_trunk (p : TrunkPort) : Aside s { s with trunk := p } := ⟨rfl, Nat.le_refl _, rfl, rfl, rfl, rfl, rfl, rfl⟩

theorem aside_agent (a : Agent) : Aside s { s with agent := a } := ⟨rfl, Nat.le_refl _, rfl, rfl, rfl, rfl, rfl, rfl⟩

theorem aside_marks (m : MarkUnit) : Aside s { s with marks := m } := ⟨rfl, Nat.le_refl _, rfl, rfl, rfl, rfl, rfl, rfl⟩

theorem aside_beat (b : BeatDetector) : Aside s { s with beat := b } := ⟨rfl, Nat.le_refl _, rfl, rfl, rfl, rfl, rfl, rfl⟩

theorem aside_sorter (f : FrameSorter) : Aside s { s with sorter := f } := ⟨rfl, Nat.le_refl _, rfl, rfl, rfl, rfl, rfl, rfl⟩

theorem aside_replicator (r : Replicator) : Aside s { s with replicator := r } :=
  ⟨rfl, Nat.le_refl _, rfl, rfl, rfl, rfl, rfl, rfl⟩

theorem aside_report (r : ReportEngine) : Aside s { s with report := r } := ⟨rfl, Nat.le_refl _, rfl, rfl, rfl, rfl, rfl, rfl⟩

/-- The commands of the trunk link, the beat and the reports that move no site. -/
theorem aside_exec {c : Instr} (hc : c ∈ ([.trunkTrainingStart, .trunkFrameCheckFail, .trunkUnknownKind,
      .selftestFrameDiscard, .monPulseEnd, .beat, .reportFrameBuild, .reportFrameSent, .interruptedReportResend,
      .flowFrameSend, .flowFrameEnd, .coalescingTimerExpiry] : List Instr)
      ∨ (∃ received, c = .trunkLinkUp received) ∨ ∃ r, c = .ctrl r)
    (next : exec c s = .next t) : Aside s t := by
  have held (f : State → State) (h : Aside s (f s)) (next : live s f = .next t) : Aside s t := by
    rcases live_eq_next s t f next with rfl | rfl
    · exact .refl _
    · exact h
  simp only [List.mem_cons, List.not_mem_nil, or_false] at hc
  obtain (rfl | rfl | rfl | rfl | rfl | rfl | rfl | rfl | rfl | rfl | rfl | rfl) | ⟨received, rfl⟩ | ⟨r, rfl⟩ := hc
  all_goals simp only [exec, execTrunkTrainingStart, execTrunkFrameCheckFail, execTrunkUnknownKind,
    execSelftestFrameDiscard, execMonPulseEnd, execBeat, execReportFrameBuild, execReportFrameSent,
    execInterruptedReportResend, execFlowFrameSend, execFlowFrameEnd, execCoalescingTimerExpiry, execTrunkLinkUp,
    execCtrl] at next
  · refine held _ ?_ next
    split
    · exact aside_trunk _
    · exact .refl _
  · refine held _ ?_ next
    split
    · exact aside_trunk _
    · exact .refl _
  · refine held _ ?_ next
    split
    · exact aside_trunk _
    · exact .refl _
  · exact held id (.refl _) next
  · refine held _ ?_ next
    cases s.marks.monPulse with
    | none => exact .refl _
    | some e => exact (aside_reach s e).trans (aside_marks _)
  · refine held _ ?_ next
    split
    · exact aside_beat _
    · exact .refl _
  · refine held _ ?_ next
    split
    · refine Aside.trans ?_ (aside_readFlow _)
      exact ⟨rfl, Nat.le_refl _, rfl, rfl, rfl, rfl, rfl, rfl⟩
    · exact .refl _
  · refine held _ ?_ next
    split
    · exact aside_trunk _
    · exact .refl _
  · refine held _ ?_ next
    split
    · split
      · exact aside_trunk _
      · exact .refl _
    · exact .refl _
  · refine held _ ?_ next
    split
    · split
      · exact aside_trunk _
      · exact .refl _
    · exact .refl _
  · refine held _ ?_ next
    split
    · exact aside_trunk _
    · exact .refl _
  · refine held _ ?_ next
    cases s.coalescingDue with
    | none => exact .refl _
    | some n => exact aside_reach s n
  · refine held _ ?_ next
    split
    · split
      · exact (aside_trunk _).trans (aside_trunk _)
      · exact aside_trunk _
    · exact .refl _
  · refine held _ ?_ next
    split
    · split
      · exact aside_agent _
      · exact aside_agent _
    · exact .refl _

/-! ### Requests -/

/-- A request taken: the intake, its effect and its answer. -/
theorem changes_takeRequest {kind : Byte} {effect : CtrlRequest → State → Answer}
    (h : ∀ (r : CtrlRequest) (rest : List CtrlRequest),
      Changes known (intakeLeft s rest) (effect r (intakeLeft s rest)).after) :
    Changes known s (s.takeRequest kind effect) := by
  unfold State.takeRequest State.oldestRequest
  cases s.agent.intake with
  | nil => exact .refl
  | cons r rest =>
    simp only
    by_cases hk : r.kind = kind
    · simp only [hk, decide_true, if_true]
      exact ((Changes.aside (aside_agent _)).trans (h r rest)).trans (Changes.aside (aside_respond _ _ _ _))
    · simp only [hk, decide_false]
      exact .refl

/-- Requests that are refused, or answered from what stands. -/
theorem changes_refuse (code : RespCode) : Changes known s (refuse s code).after := .refl

theorem after_getHub (r : CtrlRequest) (s : State) : (getHubAnswer r s).after = s := by
  unfold getHubAnswer
  split <;> rfl

theorem after_readProfile (r : CtrlRequest) (s : State) : (readProfileAnswer r s).after = s := by
  unfold readProfileAnswer
  split
  · rfl
  · split
    · rfl
    · split
      · rfl
      · split <;> rfl
      · rfl

theorem after_readSite (r : CtrlRequest) (s : State) : (readSiteAnswer r s).after = s := by
  unfold readSiteAnswer
  split
  · rfl
  · split <;> rfl

theorem after_readRegion (r : CtrlRequest) (s : State) : (readRegionAnswer r s).after = s := by
  unfold readRegionAnswer
  split
  · rfl
  · split <;> rfl

theorem after_readCells (r : CtrlRequest) (s : State) : (readCellsAnswer r s).after = s := by
  unfold readCellsAnswer
  split
  · rfl
  · split <;> rfl

theorem changes_setHub (r : CtrlRequest) : Changes known s (setHubAnswer r s).after := by
  unfold setHubAnswer
  split
  · exact Changes.aside ⟨rfl, Nat.le_refl _, rfl, rfl, rfl, rfl, rfl, rfl⟩
  · exact .refl

theorem changes_swapProfile (r : CtrlRequest) : Changes known s (swapProfileAnswer r s).after := by
  unfold swapProfileAnswer
  split
  · exact .refl
  · split
    · exact .refl
    · rename_i k _ hp
      split
      · exact .refl
      · rename_i passes
        split
        · exact .refl
        · rename_i free
          exact .single (.requestSwap k (eq_false_of_ne_true hp) passes free)

theorem changes_setPair (r : CtrlRequest) : Changes known s (setPairAnswer r s).after := by
  unfold setPairAnswer
  split
  · exact .refl
  · split
    · exact .refl
    · rename_i k _
      split
      · exact .refl
      · rename_i free
        exact .single (.setPair k _ free)

theorem changes_joinSite (r : CtrlRequest) : Changes known s (joinSiteAnswer r s).after := by
  unfold joinSiteAnswer
  split
  · exact .refl
  · rename_i i _
    split
    · exact .refl
    · rename_i idle
      split
      · exact .refl
      · rename_i k mode
        split
        · exact .refl
        · rename_i valid
          split
          · exact .refl
          · rename_i free
            exact .single (.join i k (Classical.not_not.mp idle) mode (eq_true_of_ne_false valid) free)

theorem changes_retireSite (r : CtrlRequest) : Changes known s (retireSiteAnswer r s).after := by
  unfold retireSiteAnswer
  split
  · exact .refl
  · split
    · rename_i h; exact (changes_raiseCause _ (busy_of_state h (by decide))).1
    · rename_i h; exact (changes_raiseCause _ (busy_of_state h (by decide))).1
    · rename_i h; exact (changes_raiseCause _ (busy_of_state h (by decide))).1
    · exact .refl

theorem changes_clearSite (r : CtrlRequest) : Changes known s (clearSiteAnswer r s).after := by
  unfold clearSiteAnswer
  split
  · exact .refl
  · rename_i i _
    split
    · rename_i retired
      show Changes known s (s.clearRetired i)
      rw [State.clearRetired_eq]
      apply Changes.site
      by_cases fine : (s.site i).head.lock = .fine
      · simp only [if_pos fine]
        exact (SiteChange.clearIdle retired fine).steps.minor rfl
      · simp only [if_neg fine]
        exact (SiteChange.clearTraining _ retired).steps.minor rfl
    · exact .refl

theorem changes_releaseSite (r : CtrlRequest) : Changes known s (releaseSiteAnswer r s).after := by
  unfold releaseSiteAnswer
  split
  · exact .refl
  · rename_i i _
    split
    · rename_i retired
      show Changes known s (s.release i)
      rw [State.release_eq]
      apply Changes.site
      by_cases fine : (s.site i).head.lock = .fine
      · simp only [if_pos fine]
        exact (SiteChange.release retired fine).steps.minor rfl
      · simp only [if_neg fine]
        exact (SiteChange.releaseDown retired).steps.minor rfl
    · exact .refl

theorem changes_disable (h : (s.site i).run.state = .training ∨ (s.site i).run.state = .idle
    ∨ (s.site i).run.state = .retired ∨ (s.site i).run.state = .released) : Changes known s (s.disable i) := by
  rw [State.disable_eq]
  exact Changes.site ((SiteChange.disable h).steps.minor rfl)

theorem changes_bringUp (k : ProfileIx) (h : (s.site i).run.state = .disabled ∨ (s.site i).run.state = .released) :
    Changes known s (s.bringUp i (.profile k)) := by
  rw [State.bringUp_eq]
  exact Changes.site ((SiteChange.bringUp k _ h).steps.minor rfl)

theorem changes_setProfile (k : ProfileIx) (h : (s.site i).run.state = .training ∨ (s.site i).run.state = .idle
    ∨ (s.site i).run.state = .retired) : Changes known s (s.modConfig i fun c => { c with mode := .profile k }) := by
  rw [State.modConfig_eq]
  exact Changes.site (SiteChange.setProfile k h).steps

theorem changes_setMode (m : SiteMode) : Changes known s (s.setMode i m) := by
  cases m with
  | disabled =>
    cases h : (s.site i).run.state <;> simp only [State.setMode, h]
    case training | idle | retired | released => exact changes_disable (by simp [h])
    all_goals exact .refl
  | profile k =>
    cases h : (s.site i).run.state <;> simp only [State.setMode, h]
    case disabled | released => exact changes_bringUp k (by simp [h])
    case training | idle | retired => exact changes_setProfile k (by simp [h])
    all_goals exact .refl

theorem changes_setRetireOption (b : Bool) : Changes known s (s.setRetireOption i b) := by
  unfold State.setRetireOption
  have set : Changes known s (s.modConfig i fun c => { c with retireOnUnrepairable := b }) := by
    rw [State.modConfig_eq]
    exact Changes.minor rfl
  simp only
  split
  · rename_i h
    obtain ⟨-, -, -, running⟩ := h
    refine set.trans (changes_raiseCause _ (busy_of_inTest ?_)).1
    rw [State.modConfig_eq, State.site_modSite_same]
    rcases running with active | ⟨draining, -⟩
    · simp [active, SiteState.inTest]
    · simp [draining, SiteState.inTest]
  · exact set

theorem changes_applyOptions (o : SiteOptions) : Changes known s (s.applyOptions i o) := by
  rw [State.applyOptions_eq]
  have option : Changes known s (o.retire.elim s (s.setRetireOption i)) := by
    cases o.retire with
    | none => exact .refl
    | some b => exact changes_setRetireOption b
  refine option.trans (Changes.site ?_)
  cases h : o.offset with
  | none => exact (SiteChange.minor (by simp [Site.essence, SiteConfig.apply, h, SiteMarks.setOffset])).steps
  | some v =>
    refine (SiteChange.setOffset (o := clampTo 0 4095 v) (by unfold clampTo; omega)).steps.minor ?_
    simp [Site.essence, SiteConfig.apply, h, SiteMarks.setOffset]

theorem changes_setSite (r : CtrlRequest) : Changes known s (setSiteAnswer r s).after := by
  unfold setSiteAnswer
  split
  · exact .refl
  · rename_i mode _ _
    split
    · exact .refl
    · split
      · exact .refl
      · refine Runs.trans ?_ (changes_applyOptions _)
        cases mode with
        | none => exact .refl
        | some m => exact changes_setMode m

/-! ### Bursts and marks -/

theorem changes_offerBurst (d : Descriptor) : Changes known s (s.offerBurst d i) := by
  unfold State.offerBurst
  split
  · rename_i active
    split
    · rename_i room
      cases mode : (s.site i).config.mode with
      | disabled => simp only [State.copyBurst, State.bindingOf, mode]; exact .refl
      | profile k => exact .single (.copy i d k active mode room)
    · exact (changes_raiseCauseQuiet _ (busy_of_state active (by decide))).1
  · exact .refl

theorem changes_modEach {xs : List SiteIx} {f : SiteIx → Site → Site}
    (h : ∀ (u : State) (j : SiteIx), Changes known u (u.modSite j (f j))) : Changes known s (s.modEach xs f) :=
  Changes.foldl _ (fun _ => True) _ trivial fun u j _ _ => ⟨h u j, trivial⟩

theorem changes_burst (f : BurstFrame) (next : exec (.burst f) s = .next t) : Changes known s t := by
  refine changes_live ?_ next
  split
  · split
    · rename_i d _
      refine Runs.trans (b := s.tagCheck d.tag) ?_ ?_
      · unfold State.tagCheck
        refine Runs.trans ?_ (Changes.aside (aside_sorter _))
        split
        · rw [State.sequenceGap_eq]
          refine (Changes.aside (aside_sorter _)).trans (changes_modEach fun u j => Changes.site ?_)
          unfold Site.gapSeen
          split
          · rename_i active
            exact (SiteChange.incomplete (busy_of_state active (by decide))).steps.minor rfl
          · exact .refl _
        · exact .refl
      · unfold State.replicate
        simp only
        split
        · refine Changes.readFlow (Runs.trans ?_ (Changes.foldl (State.offerBurst d) (fun _ => True)
            allSites trivial fun u j _ _ => ⟨changes_offerBurst _, trivial⟩))
          exact Changes.aside (aside_replicator _)
        · exact (Changes.aside (aside_replicator _)).trans (Changes.aside (aside_replicator _))
    · exact Changes.aside (aside_sorter _)
  · exact .refl

theorem changes_scheduled {instant width : Nat} (h : (s.site i).run.state.marked = true) :
    Changes known s (s.modSite i fun x => x.scheduled instant width) :=
  Changes.site (SiteChange.schedule _ h).steps

theorem changes_seriesPointAt (instant : Nat) (leftOut : List SiteIx) :
    Changes known s (s.seriesPointAt instant leftOut) := by
  rw [State.seriesPointAt_eq]
  refine changes_modEach fun u j => Changes.site ?_
  unfold Site.served
  split
  · rename_i h
    exact (SiteChange.schedule _ h.1).steps
  · exact .refl _

theorem changes_serveMark (leftOut : List SiteIx) : Changes known s (s.serveMark leftOut) := by
  have point : Changes known s (s.seriesPointAt s.clock leftOut) := changes_seriesPointAt _ _
  unfold State.serveMark
  split
  · exact point
  · simp only
    refine Runs.trans ?_ (Changes.aside (aside_marks _))
    split
    · exact point
    · exact .refl
  · split
    · exact point
    · split
      · unfold State.fallBack
        simp only
        split
        · exact point
        · exact (point.trans (Changes.aside (aside_report _))).trans (Changes.aside (aside_marks _))
      · exact point.trans (Changes.aside (aside_marks _))

theorem State.site_withMarks (s : State) (m : MarkUnit) (j : SiteIx) : ({ s with marks := m } : State).site j = s.site j := rfl

theorem State.site_withReplicator (s : State) (r : Replicator) (j : SiteIx) :
    ({ s with replicator := r } : State).site j = s.site j := rfl

theorem State.site_fallBack (leftOut : List SiteIx) (j : SiteIx) :
    (s.fallBack leftOut).site j = (s.seriesPointAt s.clock leftOut).site j := by
  unfold State.fallBack
  simp only
  split
  · rfl
  · rw [State.site_withMarks, State.site_flagHub]

/-- A site at the service of a frame mark: a normal mark at a series point 0, which THIN skips while it counts (R126 to R129). -/
theorem State.site_serveMark (leftOut : List SiteIx) (j : SiteIx) : (s.serveMark leftOut).site j =
    if s.marks.setting.mode ≠ .thin ∨ s.marks.thinCount = 0 then
      (s.site j).served s.clock (decide (j ∈ leftOut))
    else s.site j := by
  have point : (s.seriesPointAt s.clock leftOut).site j = (s.site j).served s.clock (decide (j ∈ leftOut)) := by
    rw [State.seriesPointAt_eq, State.site_modEach_allSites]
  cases mode : s.marks.setting.mode with
  | pass => simpa [State.serveMark, mode] using point
  | thin =>
    have thin : (s.serveMark leftOut).site j
        = (if s.marks.thinCount = 0 then s.seriesPointAt s.clock leftOut else s).site j := by
      simp only [State.serveMark, mode]
      rfl
    rw [thin]
    by_cases zero : s.marks.thinCount = 0
    · rw [if_pos zero, if_pos (.inr zero), point]
    · rw [if_neg zero, if_neg (by simp [zero])]
  | multiply =>
    rw [if_pos (.inl (by simp))]
    cases measured : s.marks.interval with
    | none => simpa only [State.serveMark, mode, measured] using point
    | some interval =>
      have multiplied : s.serveMark leftOut = if interval / s.marks.setting.divider < 256 then s.fallBack leftOut
          else s.beginSeries leftOut s.marks.setting.divider (interval / s.marks.setting.divider) := by
        simp only [State.serveMark, mode, measured]
      rw [multiplied]
      split
      · rw [State.site_fallBack, point]
      · rw [State.beginSeries, State.site_withMarks, point]

/-- Serving a frame mark leaves the sites in their states. -/
theorem run_serveMark (leftOut : List SiteIx) (j : SiteIx) : ((s.serveMark leftOut).site j).run = (s.site j).run := by
  have served (instant : Nat) (out : Bool) : ((s.site j).served instant out).run = (s.site j).run := by
    unfold Site.served
    split <;> rfl
  rw [State.site_serveMark]
  split
  · exact served _ _
  · rfl

theorem changes_promoted : Changes known s (s.modSite i Site.promoted) := by
  apply Changes.site
  cases h : (s.site i).run.state
  case armed => exact (SiteChange.prime h).steps.minor (by simp [Site.essence, Site.promoted, h])
  case primed => exact (SiteChange.activate h).steps.minor (by simp [Site.essence, Site.promoted, h])
  all_goals
    refine (SiteChange.minor ?_).steps
    simp only [Site.essence, Site.promoted, h]
    cases hr : (s.site i).run
    simp_all

/-- The Mark Unit's part of a mark point: every site that has moved is PRIMED or ACTIVE by then. -/
theorem changes_frameMark (before : SiteIx → SiteState)
    (h : ∀ j : SiteIx, before j = .armed ∨ before j = .primed → (s.site j).run.state.marked = true) :
    Changes known s (s.frameMark (allSites.filterMap fun i => (lifecycleWidth (before i)).map fun w => (i, w))) := by
  unfold State.frameMark
  simp only
  rw [State.lifecycle_eq]
  refine Runs.trans ?_ (Changes.foldl (fun v j => v.modSite j fun x => x.lifecycle (before j) s.clock)
    (fun v => ∀ j : SiteIx, (v.site j).run = (s.site j).run) allSites (fun j => run_serveMark _ _) fun v j _ hv => ?_)
  · refine Runs.trans ?_ (changes_serveMark _)
    exact Changes.aside (aside_marks _)
  · refine ⟨?_, fun l => ?_⟩
    · unfold Site.lifecycle
      cases moved : before j
      case armed => exact changes_scheduled (by rw [hv j]; exact h j (.inl moved))
      case primed => exact changes_scheduled (by rw [hv j]; exact h j (.inr moved))
      all_goals exact Changes.minor rfl
    · rw [State.site_modSite]
      split
      · rename_i same
        rw [same, ← hv j]
        unfold Site.lifecycle
        cases lifecycleWidth (before j) <;> rfl
      · exact hv l

theorem State.site_performSwaps (j : SiteIx) : s.performSwaps.site j = s.site j := by
  simp [State.performSwaps, allProfiles]

theorem changes_markPoint : Changes known s s.markPoint := by
  have swapped : Changes known s s.performSwaps :=
    Changes.foldl _ (fun _ => True) _ trivial fun u k _ _ => ⟨.single (.swap k), trivial⟩
  have moved : Changes known s (allSites.foldl State.promote s.performSwaps).readFlow := by
    rw [State.promoteAll_eq]
    exact Changes.readFlow (swapped.trans (changes_modEach fun u j => changes_promoted))
  unfold State.markPoint
  refine Runs.trans ?_ (changes_frameMark _ fun j was => ?_)
  · refine Runs.trans moved ?_
    exact Changes.aside (aside_replicator _)
  · rw [State.site_withReplicator, State.promoteAll_eq, State.site_readFlow, State.site_modEach_allSites, State.site_performSwaps]
    rcases was with was | was <;> simp [Site.promoted, was, SiteState.marked]

/-! ### Site events -/

theorem changes_fromHead {take : State → State}
    (h : (s.site i).head.drive = .enabled → (s.site i).head.lock = .fine → Changes known s (take s)) :
    Changes known s (s.fromHead i take) := by
  rw [State.fromHead_eq]
  split
  · rename_i hearing
    exact h hearing.1 hearing.2
  · split
    · exact Changes.minor rfl
    · exact .refl

/-- A site whose link has just lost FINE lock, the frame being sent ended and the edge reported (R38, R143, R145). -/
def Site.unlocked (x : Site) (target : LockState) (run : Nat) (sent : Option HeadSent) : Site :=
  { x with
    head := { x.head with
      lock := target, trainRun := run, fineLoss := sat32 x.head.fineLoss 1, expander := .idle, sent := sent }
    reports := { x.reports with
      summaryPending := x.reports.summaryPending
        || decide (x.config.lockEdges = .loss ∨ x.config.lockEdges = .both) } }

/-- A loss of FINE lock, and what the site does about it by its state (R144). -/
theorem State.loseFine_eq (target : LockState) (run : Nat) : s.loseFine i target run =
    match (s.site i).run.state with
    | .idle => (s.modSite i fun x => x.unlocked target run (lastSent s i .inverted)).enterTraining i
    | .armed | .primed | .active | .draining | .retired =>
      (s.modSite i fun x => x.unlocked target run (lastSent s i .inverted)).raiseCause i .linkLost
    | .released => (s.modSite i fun x => x.unlocked target run (lastSent s i .inverted)).linkDown i
    | _ => s.modSite i fun x => x.unlocked target run (lastSent s i .inverted) := by
  have lost : (((s.endFrame i .inverted).modHead i fun h =>
      { h with lock := target, trainRun := run, fineLoss := sat32 h.fineLoss 1 }).lockEdge i .loss)
      = s.modSite i fun x => x.unlocked target run (lastSent s i .inverted) := by
    simp only [State.endFrame_eq, State.modHead_eq, State.lockEdge_eq, State.modSite_modSite]
    rfl
  unfold State.loseFine
  simp only [lost] <;> rfl

theorem changes_loseFine (target : LockState) (run : Nat) (notFine : target ≠ .fine)
    (enabled : (s.site i).head.drive = .enabled) : Changes known s (s.loseFine i target run) := by
  rw [State.loseFine_eq]
  have unlocked (h : (s.site i).run.state = .training ∨ (s.site i).run.state = .disabled
      ∨ (s.site i).run.state = .retired) :
      Changes known s (s.modSite i fun x => x.unlocked target run (lastSent s i .inverted)) :=
    Changes.site ((SiteChange.unlock h enabled notFine).steps.minor rfl)
  have recorded (h : Busy known (s.site i)) :=
    (SiteChange.cause (known := known) (rate := (s.pairOf i).rate) .linkLost h).steps
  have gone : ((retiredSite { s.site i with run := withCause .linkLost (s.site i).run }).run.state = .training
      ∨ (retiredSite { s.site i with run := withCause .linkLost (s.site i).run }).run.state = .disabled
      ∨ (retiredSite { s.site i with run := withCause .linkLost (s.site i).run }).run.state = .retired) :=
    .inr (.inr rfl)
  cases h : (s.site i).run.state <;> simp only
  case disabled | training => exact unlocked (by simp [h])
  case idle =>
    rw [State.enterTraining_eq, State.modSite_modSite]
    exact Changes.site ((SiteChange.retrain _ h enabled notFine).steps.minor rfl)
  case released =>
    rw [State.linkDown_eq, State.modSite_modSite]
    exact Changes.site ((SiteChange.unlink h).steps.minor rfl)
  case retired =>
    refine (unlocked (by simp [h])).trans (changes_raiseCause _ (busy_of_state (st := .retired) ?_ (by decide))).1
    rw [State.site_modSite_same]
    exact h
  case armed | primed =>
    have before : (s.site i).run.state = .armed ∨ (s.site i).run.state = .primed := by simp [h]
    refine Changes.readFlow ?_
    rw [State.raiseCauseQuiet_before _ _ _ (by decide) (by rw [State.site_modSite_same]; exact before),
      State.modSite_modSite]
    exact Changes.site ((((recorded (busy_of_state h (by decide))).snoc (.retire (by simp [h]))).snoc
      (.unlock gone enabled notFine)).minor rfl)
  case active | draining =>
    have running : (s.site i).run.state = .active ∨ (s.site i).run.state = .draining := by simp [h]
    refine Changes.readFlow ?_
    rw [State.raiseCauseQuiet_abandoning _ _ _ rfl (by rw [State.site_modSite_same]; exact running),
      State.site_modSite_same, State.dropRefs_modSite, State.modSite_modSite]
    have cut := (recorded (busy_of_state h (by decide))).trans (SiteChange.abandon (by simp [h])).steps
    have same : copiesLost { s.site i with run := withCause .linkLost (s.site i).run }
        = copiesLost ((s.site i).unlocked target run (lastSent s i .inverted)) := by
      simp [copiesLost, Site.unlocked]
    rw [same] at cut
    exact Changes.steps ((cut.snoc (.unlock gone enabled notFine)).minor rfl)

theorem changes_trainFail (h : (s.site i).run.state = .training) : Changes known s (s.trainFail i) := by
  unfold State.trainFail
  rw [State.recordCause_eq, State.modRun_eq, State.enter_eq, State.modSite_modSite, State.modSite_modSite]
  exact Changes.site ((SiteChange.trainFail h).steps.minor rfl)

/-- Every command among the changes of the hub but for the resets, the end of the self-test, what enters and leaves HOLDOVER, and
WRITE_PROFILE; the queues need to be held for a site in flight to be past its joining. -/
def isOrdinary : Instr → Bool
  | .powerOnReset | .resetPin | .resetPinRelease | .selftestEnd _ | .hubReset => false
  | .trunkSymbolLockLoss | .mainframeRestart | .beatExpiry | .resume | .writeProfile => false
  | _ => true

theorem changes_seriesPoint (next : execSeriesPoint s = .next t) : Changes known s t := by
  refine changes_live ?_ next
  cases s.seriesDue with
  | none => exact .refl
  | some n =>
    refine Runs.trans ?_ (Changes.aside (aside_marks _))
    exact (Changes.aside (aside_reach s n)).trans (changes_seriesPointAt _ _)

theorem changes_lineMarkDue (next : execLineMarkDue i s = .next t) : Changes known s t := by
  refine changes_live ?_ next
  split
  · exact .refl
  · rename_i m rest h
    refine (Changes.aside (aside_reach s m.due)).trans ?_
    rw [State.modMarks_eq]
    exact Changes.site ((SiteChange.takeMark h).steps.minor rfl)

theorem changes_linePulseEnd (next : execLinePulseEnd i s = .next t) : Changes known s t := by
  refine changes_live ?_ next
  cases (s.site i).marks.pulseEnd with
  | none => exact .refl
  | some n =>
    refine (Changes.aside (aside_reach s n)).trans ?_
    rw [Option.elim_some, State.modMarks_eq]
    exact Changes.minor rfl

theorem changes_summaryRecord (next : execSummaryRecord s = .next t) : Changes known s t := by
  refine changes_live ?_ next
  cases s.owed with
  | none => exact .refl
  | some f =>
    refine Changes.enqueue ?_ _
    cases f with
    | hub => exact Changes.aside (aside_report _)
    | site j =>
      rw [State.clearFlag, State.modReports_eq]
      exact Changes.minor rfl
    | region j g =>
      rw [State.clearFlag, State.modRegion_eq]
      exact Changes.site (SiteChange.shown g).steps

theorem changes_launch (next : execLaunch i s = .next t) : Changes known s t := by
  refine changes_live ?_ next
  split
  · rename_i e rest queue
    split
    · rename_i ready
      obtain ⟨active, fine, -, room, -, -⟩ := by simpa only [State.launchReady, decide_eq_true_eq] using ready
      refine Changes.readFlow ?_
      rw [State.launchEntry, State.modHead_eq]
      exact Changes.site (SiteChange.launch (s.launchRecord i e) s.clock queue rfl active fine room).steps
    · exact .refl
  · exact .refl

theorem changes_endFrame (check : CheckSent) : Changes known s (s.endFrame i check) := by
  rw [State.endFrame_eq]
  exact Changes.site (SiteChange.endFrame.steps.minor rfl)

theorem changes_vectorBlockEnd (next : execVectorBlockEnd i s = .next t) : Changes known s t := by
  refine changes_live ?_ next
  split
  · cases s.frameEnds i with
    | none => exact .refl
    | some n => exact (Changes.aside (aside_reach s n)).trans (changes_endFrame _)
  · exact .refl

theorem changes_controlFrameSend (next : execControlFrameSend i s = .next t) : Changes known s t := by
  refine changes_live ?_ next
  split
  · rename_i kind rest list
    split
    · rename_i ready
      obtain ⟨fine, -⟩ := by simpa only [HeadPort.controlReady, decide_eq_true_eq] using ready
      rw [State.modHead_eq]
      exact Changes.site (SiteChange.sendControl s.clock fine list).steps
    · exact .refl
  · exact .refl

theorem changes_controlFrameEnd (next : execControlFrameEnd i s = .next t) : Changes known s t := by
  refine changes_live ?_ next
  split
  · cases s.frameEnds i with
    | none => exact .refl
    | some n =>
      refine (Changes.aside (aside_reach s n)).trans ?_
      show Changes known _ ((s.reach n).controlSent i _)
      unfold State.controlSent
      split
      · rename_i h
        refine (changes_endFrame _).trans (changes_linkDown ?_)
        rw [State.endFrame_eq, State.site_modSite_same]
        exact h.2
      · exact changes_endFrame _
  · exact .refl

theorem changes_patternRecognised (next : execPatternRecognised i s = .next t) : Changes known s t := by
  refine changes_live ?_ next
  split
  · rename_i h
    rw [State.modHead_eq]
    exact Changes.site ((SiteChange.recognise h.1 h.2).steps.minor rfl)
  · exact .refl

theorem changes_trainFrameReceived {f : Option TrainFrame} (next : execTrainFrameReceived i f s = .next t) :
    Changes known s t := by
  refine changes_live ?_ next
  split
  · rename_i enabled
    split
    · exact .refl
    · exact changes_coarseFrame _ enabled
    · split
      · exact changes_loseFine _ _ (by decide) enabled
      · exact .refl
  · exact .refl

theorem changes_headSymbolLockLoss (next : execHeadSymbolLockLoss i s = .next t) : Changes known s t := by
  refine changes_live ?_ next
  split
  · rename_i enabled
    split
    · exact .refl
    · rename_i coarse
      rw [State.modHead_eq]
      exact Changes.site ((SiteChange.fall coarse).steps.minor rfl)
    · exact changes_loseFine _ _ (by decide) enabled
  · exact .refl

theorem changes_deadlineExpiry (busy : (s.site i).head.inFlight ≠ [] → Busy known (s.site i))
    (next : execDeadlineExpiry i s = .next t) : Changes known s t := by
  refine changes_live ?_ next
  cases h : s.firstDeadline i with
  | none => exact .refl
  | some n =>
    have inFlight : (s.site i).head.inFlight ≠ [] := by
      intro empty
      simp [State.firstDeadline, empty] at h
    refine (Changes.aside (aside_reach s n)).trans ?_
    exact (changes_raiseCause (s := s.reach n) _ (busy inFlight)).1

theorem changes_trainingLimitExpiry (next : execTrainingLimitExpiry i s = .next t) : Changes known s t := by
  refine changes_live ?_ next
  split
  · rename_i training
    cases (s.site i).run.trainingLimit with
    | none => exact .refl
    | some n => exact (Changes.aside (aside_reach s n)).trans (changes_trainFail training)
  · exact .refl

/-- A request whose effect is some changes makes no others. -/
theorem changes_request {kind : Byte} {effect : CtrlRequest → State → Answer}
    (h : ∀ (r : CtrlRequest) (u : State), Changes known u (effect r u).after)
    (next : live s (fun s => s.takeRequest kind effect) = .next t) : Changes known s t :=
  changes_live (changes_takeRequest fun r rest => h r (intakeLeft s rest)) next

/-- What a command can do (the inversion of `exec`), the resets and the like being apart. -/
theorem exec_changes (held : known → QueuesHeld s) {c : Instr} (hc : isOrdinary c = true) (next : exec c s = .next t) :
    Changes known s t := by
  have busy (i : SiteIx) (h : (s.site i).head.inFlight ≠ []) : Busy known (s.site i) := by
    intro k
    obtain ⟨-, -, -, empty⟩ := held k i
    constructor <;> intro state <;> exact h (empty (by simp [state]) (by simp [state]))
  cases c
  case powerOnReset | resetPin | resetPinRelease | selftestEnd | hubReset | trunkSymbolLockLoss | mainframeRestart
      | beatExpiry | resume | writeProfile => cases hc
  case trunkTrainingStart | trunkFrameCheckFail | trunkUnknownKind | selftestFrameDiscard | monPulseEnd | beat
      | reportFrameBuild | reportFrameSent | interruptedReportResend | flowFrameSend | flowFrameEnd
      | coalescingTimerExpiry => exact Changes.aside (aside_exec (.inl (by simp)) next)
  case trunkLinkUp received => exact Changes.aside (aside_exec (.inr (.inl ⟨received, rfl⟩)) next)
  case ctrl r => exact Changes.aside (aside_exec (.inr (.inr ⟨r, rfl⟩)) next)
  case burst f => exact changes_burst f next
  case mark =>
    refine changes_live (f := fun s => if s.hub = .selftest then s else s.markPoint) ?_ next
    split
    · exact .refl
    · exact changes_markPoint
  case seriesPoint => exact changes_seriesPoint next
  case lineMarkDue i => exact changes_lineMarkDue next
  case linePulseEnd i => exact changes_linePulseEnd next
  case getHub => exact changes_request (fun r u => by rw [after_getHub]; exact .refl) next
  case setHub => exact changes_request (fun r u => changes_setHub r) next
  case readProfile => exact changes_request (fun r u => by rw [after_readProfile]; exact .refl) next
  case swapProfile => exact changes_request (fun r u => changes_swapProfile r) next
  case setSite => exact changes_request (fun r u => changes_setSite r) next
  case setPair => exact changes_request (fun r u => changes_setPair r) next
  case joinSite => exact changes_request (fun r u => changes_joinSite r) next
  case retireSite => exact changes_request (fun r u => changes_retireSite r) next
  case clearSite => exact changes_request (fun r u => changes_clearSite r) next
  case releaseSite => exact changes_request (fun r u => changes_releaseSite r) next
  case readSite => exact changes_request (fun r u => by rw [after_readSite]; exact .refl) next
  case readRegion => exact changes_request (fun r u => by rw [after_readRegion]; exact .refl) next
  case readCells => exact changes_request (fun r u => by rw [after_readCells]; exact .refl) next
  case unknownRequestKind =>
    refine changes_live (f := fun s => match s.oldestRequest (fun k => decide (k ∉ requestKinds)) with
      | some (r, t) => t.respond r .badRequest none
      | none => s) ?_ next
    unfold State.oldestRequest
    cases s.agent.intake with
    | nil => exact .refl
    | cons r rest =>
      simp only
      by_cases h : decide (r.kind ∉ requestKinds) = true
      · simp only [if_pos h]
        refine Runs.trans ?_ (Changes.aside (aside_respond _ _ _ _))
        exact Changes.aside (aside_agent _)
      · simp only [if_neg h]
        exact .refl
  case summaryRecord => exact changes_summaryRecord next
  case launch i => exact changes_launch next
  case vectorBlockEnd i => exact changes_vectorBlockEnd next
  case controlFrameSend i => exact changes_controlFrameSend next
  case controlFrameEnd i => exact changes_controlFrameEnd next
  case patternRecognised i => exact changes_patternRecognised next
  case trainFrameReceived i f => exact changes_trainFrameReceived next
  case headSymbolLockLoss i => exact changes_headSymbolLockLoss next
  case unknownHeadFrame i =>
    refine changes_live (f := fun s => s.fromHead i fun s =>
      s.modHead i fun h => { h with unknownFrames := sat32 h.unknownFrames 1 }) (changes_fromHead fun _ _ => ?_) next
    rw [State.modHead_eq]
    exact Changes.minor rfl
  case result i f =>
    exact changes_live (f := fun s => s.fromHead i fun s => s.resultFrame i f)
      (changes_fromHead fun _ _ => changes_resultFrame f (busy i)) next
  case telemetry i f =>
    exact changes_live (f := fun s => s.fromHead i fun s => s.telemetryFrame i f)
      (changes_fromHead fun _ _ => changes_telemetryFrame f) next
  case deadlineExpiry i => exact changes_deadlineExpiry (busy i) next
  case trainingLimitExpiry i => exact changes_trainingLimitExpiry next

end Sys2Proof.Machine
end

section
/-! The laws of a step, from the list of changes: a law that every change keeps, and every upheaval, is kept by every step. -/
namespace Sys2Proof.Machine

open Sys2Proof.Safety

variable {known : Prop} {rate : LinkRate} {rs : List BankRef} {x y : Site} {s t : State} {i : SiteIx} {c : Instr}

/-! ### The commands that are no ordinary changes -/

/-- What the extraordinary commands do to sites, banks and pairs: nothing, a bank written, every bank zeroed at the end of a
self-test, or a reset. -/
inductive Upheaval (s t : State) : Prop
  | rest : t.sites = s.sites → t.profiles = s.profiles → t.pairs = s.pairs → Upheaval s t
  | wrote (k : ProfileIx) (w : ProfileWrite) : (s.profile k).pendingSwap = false →
      (s.profile k).standbyBank.refCount = 0 → t.sites = s.sites → t.pairs = s.pairs →
      t.profiles = (s.modProfile k fun p => p.write w).profiles → Upheaval s t
  | tested : s.selfTest.isSome = true → t.sites = s.sites → t.pairs = s.pairs →
      t.profiles = Vector.replicate 4 (Profile.reset Tables.zeroed Tables.zeroed) → Upheaval s t
  | restarted : t.sites = Vector.replicate 8 Site.reset →
      (∀ k : ProfileIx, ∃ a b : Tables, t.profile k = Profile.reset a b) → Upheaval s t

theorem Upheaval.of_aside (h : Aside s t) : Upheaval s t := .rest h.sites h.profiles h.pairs

theorem profile_keepContents (ps : Vector Profile 4) (k : ProfileIx) :
    (keepContents ps)[k] = Profile.reset ps[k].bankA.tables ps[k].bankB.tables := by
  match k with
  | 0 | 1 | 2 | 3 => rfl

theorem profile_reset (k : ProfileIx) : State.reset.profile k = Profile.reset Tables.zeroed Tables.zeroed :=
  Vector.getElem_replicate _

theorem upheaval_hubReset (next : execHubReset s = .next t) : Upheaval s t := by
  rcases live_eq_next s t _ next with rfl | rfl
  · exact .of_aside (.refl _)
  unfold State.oldestRequest
  cases s.agent.intake with
  | nil => exact .of_aside (.refl _)
  | cons r rest =>
    simp only
    by_cases kind : r.kind = 1
    · simp only [kind, decide_true, if_true]
      cases hubResetOperand r with
      | none => exact .of_aside ((aside_agent _).trans (aside_respond _ _ _ _))
      | some skip => exact .restarted rfl fun k => ⟨_, _, profile_keepContents _ k⟩
    · simp only [kind, decide_false]
      exact .of_aside (.refl _)

theorem upheaval_selftestEnd {r : GroupResults} (next : execSelftestEnd r s = .next t) : Upheaval s t := by
  rcases live_eq_next s t _ next with rfl | rfl
  · exact .of_aside (.refl _)
  cases running : s.selfTest with
  | none => exact .of_aside (.refl _)
  | some test =>
    simp only [State.testResults]
    cases test.skipped with
    | true =>
      have ended := (aside_reach s test.endsAt).trans (aside_enqueue _ (.diag .all .skipped))
      exact .rest ended.sites ended.profiles ended.pairs
    | false =>
      have ended := (((aside_enqueue (s.reach test.endsAt).zeroGroups (.diag .profile (groupOutcome r.profile))).trans
        (aside_enqueue _ (.diag .queues (groupOutcome r.queues)))).trans
        (aside_enqueue _ (.diag .regions (groupOutcome r.regions)))).trans
        (aside_enqueue _ (.diag .report (groupOutcome r.report)))
      exact .tested (by rw [running]; rfl) ended.sites ended.pairs ended.profiles

theorem upheaval_writeProfile (next : execWriteProfile s = .next t) : Upheaval s t := by
  rcases live_eq_next s t _ next with rfl | rfl
  · exact .of_aside (.refl _)
  unfold State.takeRequest State.oldestRequest
  cases s.agent.intake with
  | nil => exact .of_aside (.refl _)
  | cons r rest =>
    simp only
    by_cases kind : r.kind = 4
    · simp only [kind, decide_true, if_true]
      unfold writeProfileAnswer
      split
      · exact .of_aside ((aside_agent _).trans (aside_respond _ _ _ _))
      · split
        · exact .of_aside ((aside_agent _).trans (aside_respond _ _ _ _))
        · rename_i w _ _ k _
          split
          · exact .of_aside ((aside_agent _).trans (aside_respond _ _ _ _))
          · split
            · exact .of_aside ((aside_agent _).trans (aside_respond _ _ _ _))
            · rename_i swap
              split
              · exact .of_aside ((aside_agent _).trans (aside_respond _ _ _ _))
              · rename_i free
                have answered := aside_respond (({ s with agent := { s.agent with intake := rest } } : State).modProfile k
                  fun p => p.write w) r .ok none
                exact .wrote k w (eq_false_of_ne_true swap) (Classical.not_not.mp free) answered.sites answered.pairs
                  answered.profiles
    · simp only [kind, decide_false]
      exact .of_aside (.refl _)

theorem upheaval_resume (next : execResume s = .next t) : Upheaval s t := by
  rcases live_eq_next s t _ next with rfl | rfl
  · exact .of_aside (.refl _)
  unfold State.takeRequest State.oldestRequest
  cases s.agent.intake with
  | nil => exact .of_aside (.refl _)
  | cons r rest =>
    simp only
    by_cases kind : r.kind = 16
    · simp only [kind, decide_true, if_true]
      unfold resumeAnswer
      split
      · exact .of_aside ((aside_agent _).trans (aside_respond _ _ _ _))
      · split
        · have answered := aside_respond ({ ({ s with agent := { s.agent with intake := rest } } : State).flagHub with
            hub := .ready } : State) r .ok none
          exact .rest answered.sites answered.profiles answered.pairs
        · exact .of_aside ((aside_agent _).trans (aside_respond _ _ _ _))
    · simp only [kind, decide_false]
      exact .of_aside (.refl _)

theorem upheaval_beatExpire (u : State) : Upheaval u u.beatExpire := by
  unfold State.beatExpire
  simp only
  split <;> exact .rest rfl rfl rfl

theorem Upheaval.after {u : State} (h : Upheaval u t) (sites : u.sites = s.sites) (profiles : u.profiles = s.profiles)
    (pairs : u.pairs = s.pairs) (selfTest : u.selfTest = s.selfTest) : Upheaval s t := by
  have profile (k : ProfileIx) : u.profile k = s.profile k := by rw [State.profile, profiles, State.profile]
  cases h with
  | rest a b c => exact .rest (a.trans sites) (b.trans profiles) (c.trans pairs)
  | wrote k w a b c d e =>
    rw [profile] at a b
    refine .wrote k w a b (c.trans sites) (d.trans pairs) (e.trans ?_)
    simp only [State.modProfile, profiles]
  | tested a b c d => exact .tested (selfTest ▸ a) (b.trans sites) (c.trans pairs) d
  | restarted a b => exact .restarted a b

theorem exec_upheaval (hc : isOrdinary c = false) (next : exec c s = .next t) : Upheaval s t := by
  have lost (target : LinkState) : Upheaval s (s.trunkLost target) := by
    unfold State.trunkLost
    simp only
    split
    · exact .rest rfl rfl rfl
    · exact (upheaval_beatExpire _).after rfl rfl rfl rfl
  cases c
  case powerOnReset =>
    simp only [exec, execPowerOnReset, Host.Outcome.next.injEq] at next
    subst next
    split <;> exact .restarted rfl fun k => ⟨_, _, profile_reset k⟩
  case resetPin =>
    simp only [exec, execResetPin, Host.Outcome.next.injEq] at next
    subst next
    exact .restarted rfl fun k => ⟨_, _, profile_keepContents _ k⟩
  case resetPinRelease =>
    simp only [exec, execResetPinRelease, Host.Outcome.next.injEq] at next
    subst next
    split <;> exact .rest rfl rfl rfl
  case selftestEnd r => exact upheaval_selftestEnd next
  case hubReset => exact upheaval_hubReset next
  case writeProfile => exact upheaval_writeProfile next
  case resume => exact upheaval_resume next
  case trunkSymbolLockLoss =>
    simp only [exec, execTrunkSymbolLockLoss] at next
    rcases live_eq_next s t _ next with rfl | rfl
    · exact .of_aside (.refl _)
    · split
      · exact lost _
      · exact .rest rfl rfl rfl
  case mainframeRestart =>
    simp only [exec, execMainframeRestart] at next
    rcases live_eq_next s t _ next with rfl | rfl
    · exact .of_aside (.refl _)
    · split
      · exact lost _
      · exact .of_aside (.refl _)
  case beatExpiry =>
    simp only [exec, execBeatExpiry] at next
    rcases live_eq_next s t _ next with rfl | rfl
    · exact .of_aside (.refl _)
    · cases s.beatDue with
      | none => exact .of_aside (.refl _)
      | some n => exact (upheaval_beatExpire (s.reach n)).after rfl rfl rfl rfl
  all_goals cases hc

/-! ### From commands to steps -/

/-- A law that does not see the waiting commands, the clock and the count of free values, and that every command keeps, is kept
by every step. -/
theorem step_keeps {law : State → Prop}
    (blind : ∀ (s : State) (pending : List Instr) (clock freeIndex : Nat), law s →
      law { s with pending := pending, clock := clock, freeIndex := freeIndex })
    (keeps : ∀ (c : Instr) (s t : State), law s → exec c s = .next t → law t)
    (h : law s) (next : step s = .next t) : law t := by
  unfold step at next
  split at next
  · rename_i c rest _
    exact keeps c _ t (blind s rest s.clock s.freeIndex h) next
  · have drawn : law s.drawn := blind s s.pending s.clock (s.freeIndex + 1) h
    unfold idle at next
    split at next
    · cases next
      exact blind s s.pending (s.clock + 1) s.freeIndex h
    · exact keeps _ _ _ drawn next
    · exact keeps _ _ _ drawn next

/-- A law of sites, banks and pairs that every change and every upheaval keeps is kept by every command. -/
theorem exec_keeps {law : State → Prop} (held : ∀ s : State, law s → known → QueuesHeld s)
    (change : ∀ s t : State, law s → Change known s t → law t)
    (upheaval : ∀ s t : State, law s → Upheaval s t → law t)
    (h : law s) (next : exec c s = .next t) : law t := by
  cases hc : isOrdinary c with
  | false => exact upheaval s t h (exec_upheaval hc next)
  | true =>
    have changes := exec_changes (held s h) hc next
    clear next
    induction changes with
    | refl => exact h
    | tail _ last ih => exact change _ _ ih last

/-! ### Laws of one site -/

/-- A law that every site keeps by itself, given the rate class of its pair. -/
structure SiteLaw (known : Prop) (law : LinkRate → Site → Prop) : Prop where
  change : ∀ {rate : LinkRate} {rs : List BankRef} {x y : Site}, law rate x → SiteChange known rate rs x y → law rate y
  copy : ∀ {rate : LinkRate} {x : Site} (e : LaunchEntry), law rate x → x.run.state = .active →
    x.head.launchQueue.length < 32 →
    law rate { x with head := { x.head with
      launchQueue := x.head.launchQueue ++ [e], copied := wrap48 x.head.copied 1 } }
  rates : ∀ {rate rate' : LinkRate} {x : Site}, law rate x →
    rate' = rate ∨ x.run.state = .disabled ∨ x.run.state = .released → law rate' x
  reset : ∀ rate : LinkRate, law rate Site.reset

/-- A site that joins (R68). -/
def Site.joined (x : Site) (g : Geometry) (blanking : Nat) : Site :=
  { x with
    run := { x.run with joinGeometry := some g, state := .armed }
    regions := layOutAll g x.regions
    supply := { x.supply with peak := some 0, overCount := 0, blanking := blanking }
    head := { x.head with controlList := x.head.controlList ++ [.powerOn] }
    reports := { x.reports with summaryPending := true } }

theorem State.join_eq_joined (g : Geometry) : s.join i g = s.modSite i fun x => x.joined g (s.pairOf i).blanking :=
  s.join_eq i g

/-- A burst copied to a site that has a profile. -/
theorem State.copyBurst_eq (d : Descriptor) {k : ProfileIx} (mode : (s.site i).config.mode = .profile k) :
    s.copyBurst i d = (s.addRef ⟨k, (s.profile k).active⟩).modSite i fun x => { x with head := { x.head with
      launchQueue := x.head.launchQueue ++ [⟨d, ⟨k, (s.profile k).active⟩⟩], copied := wrap48 x.head.copied 1 } } := by
  simp only [State.copyBurst, State.bindingOf, mode, Option.elim_some, State.modHead_eq]

@[simp] theorem State.site_addRef (r : BankRef) (j : SiteIx) : (s.addRef r).site j = s.site j := rfl

/-- The rate class of a pair changes only while its sites are DISABLED or RELEASED (R148). -/
theorem rate_setPair {k : PairIx} {o : PairOptions}
    (h : ¬(o.rate.any (fun c => decide (c ≠ s.pairs[k].rate)) = true ∧ s.pairAtRest k = false)) (j : SiteIx) :
    ((s.modPair k fun p => p.apply o).pairOf j).rate = (s.pairOf j).rate
      ∨ (s.site j).run.state = .disabled ∨ (s.site j).run.state = .released := by
  by_cases pair : j.pair = k
  · subst pair
    have same : ((s.modPair j.pair fun p => p.apply o).pairOf j) = (s.pairOf j).apply o := by
      simp [State.pairOf, State.modPair]
    rw [same]
    cases rest : s.pairAtRest j.pair with
    | true =>
      simp only [State.pairAtRest, List.all_eq_true, decide_eq_true_eq] at rest
      exact .inr (rest j (mem_allSites j) rfl)
    | false =>
      left
      cases rate : o.rate with
      | none => simp [PairSettings.apply, rate]
      | some c =>
        simp only [rate, rest, Option.any_some, decide_eq_true_eq, and_true, Classical.not_not] at h
        simp only [PairSettings.apply, rate, Option.getD_some, h]
        rfl
  · left
    have : (k : Nat) ≠ j.pair := fun e => pair (Fin.ext e.symm)
    simp [State.pairOf, State.modPair, this]

variable {law : LinkRate → Site → Prop}

/-- Every site of the hub keeps a law. -/
def AllSites (law : LinkRate → Site → Prop) (s : State) : Prop := ∀ i : SiteIx, law (s.pairOf i).rate (s.site i)

theorem AllSites.congr (h : AllSites law s) (sites : t.sites = s.sites) (pairs : t.pairs = s.pairs) : AllSites law t := by
  intro i
  rw [State.site, State.pairOf, sites, pairs]
  exact h i

theorem AllSites.modSite {f : Site → Site} (h : AllSites law s) (hi : law (s.pairOf i).rate (f (s.site i))) :
    AllSites law (s.modSite i f) := by
  intro j
  rw [State.site_modSite, State.pairOf_modSite]
  split
  · rename_i same; rw [same]; exact hi
  · exact h j

/-- A change keeps the law at every site, a joining apart. -/
theorem SiteLaw.keeps (keeps : SiteLaw known law) (h : AllSites law s) (change : Change known s t)
    (join : ∀ (i : SiteIx) (k : ProfileIx), (s.site i).run.state = .idle → (s.site i).config.mode = .profile k →
      (s.profile k).activeBank.valid = true →
      law (s.pairOf i).rate ((s.site i).joined (s.profile k).activeBank.tables.geometry (s.pairOf i).blanking)) :
    AllSites law t := by
  cases change with
  | aside quiet => exact h.congr quiet.sites quiet.pairs
  | @site i rs f moved =>
    have dropped : AllSites law (s.dropRefs rs) := h.congr (by rw [State.dropRefs_frame]) (by rw [State.dropRefs_frame])
    refine dropped.modSite ?_
    rw [State.site_dropRefs, show (s.dropRefs rs).pairOf i = s.pairOf i by rw [State.dropRefs_frame]; rfl]
    exact keeps.change (h i) moved
  | copy i d k active mode room =>
    rw [State.copyBurst_eq d mode]
    exact (h.congr rfl rfl : AllSites law (s.addRef _)).modSite (keeps.copy _ (h i) active room)
  | swap k => exact h.congr rfl rfl
  | requestSwap k => exact h.congr rfl rfl
  | setPair k o free => exact fun j => keeps.rates (h j) (rate_setPair free j)
  | join i k idle mode valid _ =>
    rw [State.join_eq_joined]
    exact h.modSite (join i k idle mode valid)

theorem SiteLaw.keeps_upheaval (keeps : SiteLaw known law) (h : AllSites law s) (upheaval : Upheaval s t) :
    AllSites law t := by
  cases upheaval with
  | rest sites _ pairs => exact h.congr sites pairs
  | wrote _ _ _ _ sites pairs _ => exact h.congr sites pairs
  | tested _ sites pairs _ => exact h.congr sites pairs
  | restarted sites _ =>
    intro i
    rw [State.site, sites, show (Vector.replicate 8 Site.reset)[i] = Site.reset from Vector.getElem_replicate _]
    exact keeps.reset _

end Sys2Proof.Machine
end

section
/-! Offsets and residuals stay in their ranges (R135, R137, R138), and no burst copy is lost or made (R49, R50, R54, R92). -/
namespace Sys2Proof.Machine

open Sys2Proof.Safety

variable {known : Prop} {rate : LinkRate} {rs : List BankRef} {x y : Site} {s t : State}

/-- A law that does not see what the essence leaves out is kept by a minor change. -/
theorem minor_keeps {law : Site → Prop} (blind : ∀ z : Site, law z.essence ↔ law z) (same : y.essence = x.essence)
    (h : law x) : law y := by
  rw [← blind, same, blind]
  exact h

/-! ### Marks in range -/

/-- Offset, initial offset and residual of a site are in range. -/
def MarksLaw (_ : LinkRate) (x : Site) : Prop :=
  x.marks.offset ≤ 4095 ∧ x.config.initialOffset ≤ 4095 ∧ -3 ≤ x.marks.residual ∧ x.marks.residual ≤ 3

/-- The loop clamps the offset, and what truncation by 4 leaves over lies in −3..3 (R137, R138). -/
theorem loopStep_range (gain : Nat) (mode : ErrorMode) (e : Int) (offset : Nat) (residual : Int) :
    (loopStep gain mode e offset residual).1 ≤ 4095 ∧ -3 ≤ (loopStep gain mode e offset residual).2.1
      ∧ (loopStep gain mode e offset residual).2.1 ≤ 3 := by
  unfold loopStep
  simp only
  generalize residual + stepInput mode e * (gain : Int) = a
  split
  · decide
  · split
    · decide
    · have split := Int.mul_tdiv_add_tmod a 4
      have least : -4 < a.tmod 4 := Int.lt_tmod_of_pos a (by decide)
      have most : a.tmod 4 < 4 := Int.tmod_lt_of_pos a (by decide)
      simp only
      omega

theorem marksLaw : SiteLaw known MarksLaw where
  change := by
    intro rate rs x y h change
    obtain ⟨offset, initial, low, high⟩ := h
    cases change
    case minor same => exact minor_keeps (law := MarksLaw rate) (fun _ => Iff.rfl) same ⟨offset, initial, low, high⟩
    case loop e _ =>
      obtain ⟨moved, least, most⟩ :=
        loopStep_range x.config.gain x.config.errorMode e x.marks.offset x.marks.residual
      exact ⟨moved, initial, least, most⟩
    case setOffset o range => exact ⟨range, range, by simp, by simp⟩
    case bringUp | clearIdle | clearTraining => exact ⟨initial, initial, by simp [Site.clear], by simp [Site.clear]⟩
    all_goals exact ⟨offset, initial, low, high⟩
  copy _ h _ _ := h
  rates h _ := h
  reset _ := by simp [MarksLaw, Site.reset, SiteConfig.reset]

/-- Settles O54: every change of a site keeps the ranges, and a joining touches no mark. -/
theorem stepsKeepMarksInRange : Obligations.StepsKeepMarksInRange := by
  intro s t inRange next
  refine step_keeps (law := AllSites MarksLaw) (fun _ _ _ _ h => h) (fun c s t h next => ?_) inRange next
  exact exec_keeps (known := False) (fun _ _ absurd => absurd.elim)
    (fun s t h change => marksLaw.keeps h change fun i _ _ _ _ => h i)
    (fun s t h upheaval => (marksLaw (known := False)).keeps_upheaval h upheaval) h next

/-! ### Copies -/

/-- The capacities of the launch queue and the in-flight list of a site, and when they are empty (R49, R54, R61). -/
def QueuesLaw (_ : LinkRate) (x : Site) : Prop :=
  x.head.launchQueue.length ≤ 32 ∧ x.head.inFlight.length ≤ 16
    ∧ (x.run.state ≠ .active → x.head.launchQueue = [])
    ∧ (x.run.state ≠ .active → x.run.state ≠ .draining → x.head.inFlight = [])

/-- The conservation relations of a site (R50, R92). -/
def ConservedLaw (_ : LinkRate) (x : Site) : Prop :=
  x.head.copied % 2 ^ 48 = (x.head.flushed + x.head.launched + x.head.launchQueue.length) % 2 ^ 48
    ∧ x.head.launched % 2 ^ 48
      = (x.mapper.answered + x.mapper.lost + x.mapper.abandoned + x.head.inFlight.length) % 2 ^ 48

theorem queuesHeld_iff : QueuesHeld s ↔ AllSites QueuesLaw s := Iff.rfl

theorem QueuesLaw.of_empty (queue : y.head.launchQueue = []) (list : y.head.inFlight = []) : QueuesLaw rate y := by
  simp [QueuesLaw, queue, list]

/-- Only ACTIVE and DRAINING hold copies. -/
theorem QueuesLaw.empty (h : QueuesLaw rate x) (active : x.run.state ≠ .active) (draining : x.run.state ≠ .draining) :
    x.head.launchQueue = [] ∧ x.head.inFlight = [] :=
  ⟨h.2.2.1 active, h.2.2.2 active draining⟩

theorem QueuesLaw.empty_of_eq {st : SiteState} (h : QueuesLaw rate x) (state : x.run.state = st)
    (other : st ≠ .active ∧ st ≠ .draining) : x.head.launchQueue = [] ∧ x.head.inFlight = [] :=
  h.empty (state ▸ other.1) (state ▸ other.2)

/-- No copies are held outside test by a site that a request moves. -/
theorem QueuesLaw.empty_at_rest (h : QueuesLaw rate x) (rest : x.run.state = .training ∨ x.run.state = .idle
      ∨ x.run.state = .retired ∨ x.run.state = .released ∨ x.run.state = .disabled ∨ x.run.state = .armed
      ∨ x.run.state = .primed) : x.head.launchQueue = [] ∧ x.head.inFlight = [] := by
  rcases rest with r | r | r | r | r | r | r <;> exact h.empty_of_eq r (by decide)

theorem queuesLaw : SiteLaw known QueuesLaw where
  change := by
    intro rate rs x y h change
    obtain ⟨short, few, queue, list⟩ := id h
    cases change
    case minor same => exact minor_keeps (law := QueuesLaw rate) (fun _ => Iff.rfl) same h
    case cause c _ => simpa [QueuesLaw] using h
    case drain active => exact ⟨by simp, few, fun _ => rfl, fun _ other => absurd rfl other⟩
    case abandon running =>
      refine .of_empty ?_ rfl
      rcases running with active | draining
      · simp [abandonedSite, retiredSite, active]
      · simp [abandonedSite, retiredSite, draining, queue]
    case launch e rest record began bound first active fine room =>
      rw [first] at short
      simp only [List.length_cons] at short
      refine ⟨by simp only; omega, by simp only [List.length_append, List.length_singleton]; omega, fun other => absurd active other, fun other => absurd active other⟩
    case answered k inside =>
      refine ⟨short, ?_, queue, fun active draining => ?_⟩
      · simp only [List.length_drop]; omega
      · simp [list active draining]
    case activate primed =>
      obtain ⟨noQueue, noList⟩ := h.empty_of_eq primed (by decide)
      exact .of_empty noQueue noList
    case prime armed =>
      obtain ⟨noQueue, noList⟩ := h.empty_of_eq armed (by decide)
      exact .of_empty noQueue noList
    case retire leaving =>
      rcases leaving with armed | primed | ⟨draining, empty⟩
      · obtain ⟨noQueue, noList⟩ := h.empty_of_eq armed (by decide)
        exact .of_empty noQueue noList
      · obtain ⟨noQueue, noList⟩ := h.empty_of_eq primed (by decide)
        exact .of_empty noQueue noList
      · exact .of_empty (queue (by simp [draining])) empty
    case trainFail state | trained state | retrain _ state _ | clearIdle state _ | clearTraining limit state
        | release state _ | releaseDown state =>
      obtain ⟨noQueue, noList⟩ := h.empty_of_eq state (by decide)
      exact .of_empty noQueue noList
    case disable state =>
      obtain ⟨noQueue, noList⟩ := h.empty_at_rest (by grind)
      exact .of_empty noQueue noList
    case bringUp k limit state =>
      obtain ⟨noQueue, noList⟩ := h.empty_at_rest (by grind)
      exact .of_empty noQueue noList
    all_goals exact h
  copy e h active room := by
    obtain ⟨-, few, -, -⟩ := h
    exact ⟨by simp only [List.length_append, List.length_singleton]; omega, few, fun other => absurd active other,
      fun other => absurd active other⟩
  rates h _ := h
  reset _ := by simp [QueuesLaw, Site.reset, HeadPort.reset]

/-- Capacities and conservation together: a site clear sets the counts to 0 where both lists are empty. -/
def CopiesLaw (rate : LinkRate) (x : Site) : Prop := QueuesLaw rate x ∧ ConservedLaw rate x

theorem copiesLaw : SiteLaw known CopiesLaw where
  change := by
    intro rate rs x y h change
    obtain ⟨queues, copied, launched⟩ := id h
    refine ⟨queuesLaw.change queues change, ?_⟩
    cases change
    case minor same => exact minor_keeps (law := ConservedLaw rate) (fun _ => Iff.rfl) same h.2
    case drain active => exact ⟨by simp only [List.length_nil]; omega, launched⟩
    case abandon running =>
      refine ⟨?_, ?_⟩
      · by_cases active : x.run.state = .active
        · simp only [abandonedSite, retiredSite, active, if_true, List.length_nil]; omega
        · simpa only [abandonedSite, retiredSite, active, if_false] using copied
      · simp only [abandonedSite, retiredSite, List.length_nil]; omega
    case launch e rest record began bound first active fine room =>
      rw [first, List.length_cons] at copied
      refine ⟨?_, ?_⟩
      · simp only; omega
      · simp only [List.length_append, List.length_singleton]; omega
    case answered k inside =>
      refine ⟨copied, ?_⟩
      simp only [List.length_drop, wrap48]; omega
    case clearIdle state _ =>
      obtain ⟨noQueue, noList⟩ := queues.empty_of_eq state (by decide)
      simp [ConservedLaw, Site.clear, FailCounters.reset, noQueue, noList]
    case clearTraining limit state =>
      obtain ⟨noQueue, noList⟩ := queues.empty_of_eq state (by decide)
      simp [ConservedLaw, Site.clear, FailCounters.reset, noQueue, noList]
    case bringUp k limit state =>
      obtain ⟨noQueue, noList⟩ := queues.empty_at_rest (by grind)
      simp [ConservedLaw, Site.clear, HeadPort.downed, FailCounters.reset, noQueue, noList]
    all_goals exact ⟨copied, launched⟩
  copy e h active room := by
    obtain ⟨queues, copied, launched⟩ := h
    refine ⟨queuesLaw.copy (known := known) e queues active room, ?_, launched⟩
    simp only [List.length_append, List.length_singleton, wrap48]; omega
  rates h _ := h
  reset _ := ⟨queuesLaw.reset (known := known) _, by simp [ConservedLaw, Site.reset, HeadPort.reset, FailCounters.reset]⟩

/-- A site that joins holds no copies, and a joining leaves the counts. -/
theorem CopiesLaw.joined {g : Geometry} {blanking : Nat} (h : CopiesLaw rate x) (idle : x.run.state = .idle) :
    CopiesLaw rate (x.joined g blanking) := by
  obtain ⟨queues, conserved⟩ := h
  obtain ⟨noQueue, noList⟩ := queues.empty_of_eq idle (by decide)
  exact ⟨.of_empty noQueue noList, conserved⟩

/-- Settles O55: every change of a site keeps the capacities and both relations. -/
theorem stepsConserveCopies : Obligations.StepsConserveCopies := by
  intro s t ⟨held, conserved⟩ next
  have kept : AllSites CopiesLaw t := by
    refine step_keeps (law := AllSites CopiesLaw) (fun _ _ _ _ h => h) (fun c s t h next => ?_)
      (fun i => ⟨held i, conserved i⟩) next
    exact exec_keeps (known := False) (fun _ _ absurd => absurd.elim)
      (fun s t h change => copiesLaw.keeps h change fun i _ idle _ _ => (h i).joined idle)
      (fun s t h upheaval => (copiesLaw (known := False)).keeps_upheaval h upheaval) h next
  exact ⟨fun i => (kept i).1, fun i => (kept i).2⟩

end Sys2Proof.Machine
end

section
/-! Head links, expanders, line marks and training limits stay with their sites (R37, R61, R66, R69, R123, R134, R141). -/
namespace Sys2Proof.Machine

open Sys2Proof.Safety

variable {known : Prop} {rate : LinkRate} {rs : List BankRef} {x y : Site} {s t : State}

@[simp] theorem trainingLimit_withCause (c : Cause) (r : RunRecord) :
    (withCause c r).trainingLimit = r.trainingLimit := by
  unfold withCause
  split
  · rfl
  · split <;> rfl

/-! ### Head links -/

/-- What the table of site states says of a head link (R61, R69, R141, R142). -/
def LinksLaw (rate : LinkRate) (x : Site) : Prop :=
  (x.run.state = .disabled → x.head.drive = .drivenDown)
    ∧ (x.run.state ≠ .disabled → x.run.state ≠ .released → x.head.drive = .enabled)
    ∧ (x.run.state = .idle ∨ x.run.state.inTest = true → x.head.lock = .fine)
    ∧ (x.head.drive = .drivenDown → x.head.lock = .down ∧ x.head.controlList = [])
    ∧ (x.head.lock ≠ .fine → x.head.expander = .idle)
    ∧ (x.run.state = .released → x.head.drive = .enabled → x.head.lock = .fine)
    ∧ (x.run.state ≠ .disabled → x.run.state ≠ .released → x.head.rate = rate)

/-- An enabled link in FINE lock at its pair's rate follows every state but DISABLED. -/
theorem LinksLaw.of_fine (state : y.run.state ≠ .disabled) (drive : y.head.drive = .enabled) (lock : y.head.lock = .fine)
    (rates : y.run.state ≠ .released → y.head.rate = rate) : LinksLaw rate y := by
  simp only [LinksLaw, drive, lock]
  exact ⟨fun h => absurd h state, by simp, by simp, by simp, by simp, by simp, fun _ => rates⟩

/-- A driven-down link follows DISABLED and RELEASED. -/
theorem LinksLaw.of_downed (state : y.run.state = .disabled ∨ y.run.state = .released) (head : y.head = x.head.downed) :
    LinksLaw rate y := by
  rcases state with state | state <;> simp [LinksLaw, state, head, HeadPort.downed, SiteState.inTest]

/-- A site in IDLE or in test has an enabled link in FINE lock at its pair's rate. -/
theorem LinksLaw.hearing (h : LinksLaw rate x) (state : x.run.state = .idle ∨ x.run.state.inTest = true) :
    x.head.drive = .enabled ∧ x.head.lock = .fine ∧ x.head.rate = rate := by
  obtain ⟨-, enabled, fine, -, -, -, rates⟩ := h
  have up : x.run.state ≠ .disabled ∧ x.run.state ≠ .released := by
    constructor <;> intro e <;> simp [e, SiteState.inTest] at state
  exact ⟨enabled up.1 up.2, fine state, rates up.1 up.2⟩

theorem LinksLaw.of_hearing (h : LinksLaw rate x) (was : x.run.state = .idle ∨ x.run.state.inTest = true)
    (state : y.run.state ≠ .disabled) (drive : y.head.drive = x.head.drive) (lock : y.head.lock = x.head.lock)
    (rates : y.head.rate = x.head.rate) : LinksLaw rate y := by
  obtain ⟨enabled, fine, same⟩ := h.hearing was
  exact .of_fine state (drive.trans enabled) (lock.trans fine) fun _ => rates.trans same

/-- An enabled link outside FINE lock follows the states in which a site is not connected. -/
theorem LinksLaw.of_training (state : y.run.state = .training ∨ y.run.state = .retired) (drive : y.head.drive = .enabled)
    (idle : y.head.lock ≠ .fine → y.head.expander = .idle) (rates : y.head.rate = rate) : LinksLaw rate y := by
  rcases state with state | state <;> simpa [LinksLaw, state, drive, rates, SiteState.inTest] using idle

theorem linksLaw : SiteLaw known LinksLaw where
  change := by
    intro rate rs x y h change
    obtain ⟨disabled, enabled, fine, driven, idle, released, rates⟩ := id h
    cases change
    case minor same => exact minor_keeps (law := LinksLaw rate) (fun _ => Iff.rfl) same h
    case cause c _ => simpa [LinksLaw] using h
    case trainFail state =>
      exact .of_training (.inr rfl) (enabled (by simp [state]) (by simp [state])) idle (rates (by simp [state]) (by simp [state]))
    case retire leaving =>
      refine h.of_hearing (.inr ?_) (by simp [retiredSite]) rfl rfl rfl
      rcases leaving with state | state | ⟨state, -⟩ <;> rw [state] <;> rfl
    case drain state => exact h.of_hearing (.inr (by rw [state]; rfl)) (by simp) rfl rfl rfl
    case abandon running =>
      refine h.of_hearing (.inr ?_) (by simp [abandonedSite, retiredSite]) rfl rfl rfl
      rcases running with state | state <;> rw [state] <;> rfl
    case prime state => exact h.of_hearing (.inr (by rw [state]; rfl)) (by simp) rfl rfl rfl
    case activate state => exact h.of_hearing (.inr (by rw [state]; rfl)) (by simp) rfl rfl rfl
    case launch state lock _ => exact h.of_hearing (.inr (by rw [state]; rfl)) (by simp [state]) rfl rfl rfl
    case endFrame => exact ⟨disabled, enabled, fine, driven, fun _ => rfl, released, rates⟩
    case sendControl kind rest began lock waiting =>
      refine ⟨disabled, enabled, fine, fun down => ?_, fun other => absurd lock other, released, rates⟩
      rw [(driven down).2] at waiting
      cases waiting
    case unlink state => exact .of_downed (.inr state) rfl
    case recognise drive lock =>
      refine ⟨disabled, enabled, fun on => ?_, fun down => ?_, fun _ => idle (by simp [lock]), fun state drive => ?_, rates⟩
      · simp [lock] at fine; simp_all
      · simp_all
      · simp_all
    case fall lock =>
      refine ⟨disabled, enabled, fun on => ?_, fun down => ?_, fun _ => idle (by simp [lock]), fun state drive => ?_, rates⟩
      · simp_all
      · simp_all
      · simp_all
    case gain drive state =>
      exact ⟨disabled, enabled, fun _ => rfl, fun down => (by simp [drive] at down), fun other => absurd rfl other,
        fun _ _ => rfl, rates⟩
    case trained state =>
      exact .of_fine (by simp) (enabled (by simp [state]) (by simp [state])) rfl
        fun _ => rates (by simp [state]) (by simp [state])
    case unlock target notFine state drive =>
      have other : x.run.state = .training ∨ x.run.state = .retired := by
        rcases state with state | state | state
        · exact .inl state
        · simp [disabled state] at drive
        · exact .inr state
      refine .of_training other drive (fun _ => rfl) (rates ?_ ?_) <;> rcases other with e | e <;> simp [e]
    case retrain target limit notFine state drive =>
      exact .of_training (.inl rfl) drive (fun _ => rfl) (rates (by simp [state]) (by simp [state]))
    case answered k inside =>
      refine ⟨disabled, enabled, fine, driven, fun other => ?_, released, rates⟩
      simp [idle other, blockCut]
    case disable state => exact .of_downed (.inl rfl) rfl
    case bringUp k limit state =>
      exact .of_training (.inl rfl) rfl (fun _ => rfl) rfl
    case clearIdle state lock =>
      exact .of_fine (by simp) (enabled (by simp [state]) (by simp [state])) lock
        fun _ => rates (by simp [state]) (by simp [state])
    case clearTraining limit state =>
      exact .of_training (.inl rfl) (enabled (by simp [state]) (by simp [state])) idle (rates (by simp [state]) (by simp [state]))
    case release state lock =>
      exact .of_fine (by simp) (enabled (by simp [state]) (by simp [state])) lock fun other => absurd rfl other
    case releaseDown state => exact .of_downed (.inr rfl) rfl
    all_goals exact h
  copy _ h _ _ := h
  rates := by
    intro r r' x h same
    obtain ⟨disabled, enabled, fine, driven, idle, released, rates⟩ := h
    refine ⟨disabled, enabled, fine, driven, idle, released, fun a b => ?_⟩
    rcases same with same | state | state
    · exact (rates a b).trans same.symm
    · exact absurd state a
    · exact absurd state b
  reset _ := by simp [LinksLaw, Site.reset, RunRecord.reset, HeadPort.reset, SiteState.inTest]

/-! ### Expanders -/

/-- The frame an expander sends belongs to the newest record in flight (R36, R37; log entry 27). -/
def ExpanderLaw (_ : LinkRate) (x : Site) : Prop :=
  match x.head.expander with
  | .sending record _ => x.head.inFlight.getLast? = some record
  | _ => True

theorem ExpanderLaw.of_blockCut {e : Expander} (h : y.head.expander = blockCut e) : ExpanderLaw rate y := by
  rw [ExpanderLaw, h]
  cases e <;> trivial

theorem ExpanderLaw.of_idle (h : y.head.expander = .idle) : ExpanderLaw rate y := by
  rw [ExpanderLaw, h]
  trivial

theorem expanderLaw : SiteLaw known ExpanderLaw where
  change := by
    intro rate rs x y h change
    cases change
    case minor same => exact minor_keeps (law := ExpanderLaw rate) (fun _ => Iff.rfl) same h
    case abandon => exact .of_blockCut rfl
    case launch => simp [ExpanderLaw]
    case sendControl => simp [ExpanderLaw]
    case endFrame | unlink | unlock | retrain | disable | bringUp | releaseDown => exact .of_idle rfl
    case answered k inside =>
      by_cases all : x.head.inFlight.length ≤ k + 1
      · exact .of_blockCut (if_pos all)
      · simp only [ExpanderLaw, if_neg all] at h ⊢
        rwa [List.getLast?_drop, if_neg all]
    all_goals exact h
  copy _ h _ _ := h
  rates h _ := h
  reset _ := .of_idle rfl

/-! ### Line marks -/

/-- Line marks stand in order of due time, and in PRIMED, ACTIVE and DRAINING alone (R123, R134). -/
def ScheduledLaw (_ : LinkRate) (x : Site) : Prop :=
  (x.marks.scheduled.map LineMark.due).Pairwise (· ≤ ·) ∧ (x.run.state.marked = false → x.marks.scheduled = [])

theorem mem_due_insertMark {m : LineMark} {marks : List LineMark} {d : Nat} :
    d ∈ (insertMark m marks).map LineMark.due ↔ d = m.due ∨ d ∈ marks.map LineMark.due := by
  induction marks with
  | nil => simp [insertMark]
  | cons x xs ih =>
    rw [insertMark]
    split
    · simp
    · rw [List.map_cons, List.mem_cons, ih, List.map_cons, List.mem_cons]
      grind

/-- A mark takes its place in the order of due time (R123). -/
theorem insertMark_sorted {m : LineMark} {marks : List LineMark} (h : (marks.map LineMark.due).Pairwise (· ≤ ·)) :
    ((insertMark m marks).map LineMark.due).Pairwise (· ≤ ·) := by
  induction marks with
  | nil => simp [insertMark]
  | cons x xs ih =>
    obtain ⟨least, sorted⟩ := List.pairwise_cons.mp h
    rw [insertMark]
    split
    · rename_i before
      refine List.pairwise_cons.mpr ⟨fun d hd => ?_, h⟩
      rcases List.mem_cons.mp hd with rfl | hd
      · exact Nat.le_of_lt before
      · exact Nat.le_trans (Nat.le_of_lt before) (least d hd)
    · rename_i after
      refine List.pairwise_cons.mpr ⟨fun d hd => ?_, ih sorted⟩
      rcases mem_due_insertMark.mp hd with rfl | hd
      · exact Nat.not_lt.mp after
      · exact least d hd

theorem ScheduledLaw.of_empty (h : y.marks.scheduled = []) : ScheduledLaw rate y := by
  simp [ScheduledLaw, h]

/-- A site outside PRIMED, ACTIVE and DRAINING has no line marks, and none while it moves without being served. -/
theorem ScheduledLaw.of_unmarked {st : SiteState} (h : ScheduledLaw rate x) (state : x.run.state = st)
    (unmarked : st.marked = false) (same : y.marks.scheduled = x.marks.scheduled) : ScheduledLaw rate y :=
  .of_empty (same.trans (h.2 (state ▸ unmarked)))

theorem scheduledLaw : SiteLaw known ScheduledLaw where
  change := by
    intro rate rs x y h change
    obtain ⟨sorted, none⟩ := id h
    cases change
    case minor same => exact minor_keeps (law := ScheduledLaw rate) (fun _ => Iff.rfl) same h
    case cause c _ => simpa [ScheduledLaw] using h
    case retire | abandon => exact .of_empty rfl
    case drain | activate => exact ⟨sorted, fun off => absurd off (by simp [SiteState.marked])⟩
    case schedule m on => exact ⟨insertMark_sorted sorted, fun off => by simp [on] at off⟩
    case takeMark m rest first =>
      rw [first, List.map_cons] at sorted
      exact ⟨(List.pairwise_cons.mp sorted).2, fun off => by simp [none off] at first⟩
    case trainFail state | trained state | retrain _ state _ | clearTraining _ state | clearIdle state _ | prime state
        | release state _ | releaseDown state =>
      exact h.of_unmarked state rfl rfl
    case disable state => rcases state with state | state | state | state <;> exact h.of_unmarked state rfl rfl
    case bringUp state => rcases state with state | state <;> exact h.of_unmarked state rfl rfl
    all_goals exact h
  copy _ h _ _ := h
  rates h _ := h
  reset _ := .of_empty rfl

/-! ### Training limits -/

/-- The training limit runs in TRAINING alone (R66). -/
def TimedLaw (_ : LinkRate) (x : Site) : Prop := x.run.state = .training ↔ x.run.trainingLimit.isSome = true

theorem TimedLaw.of_stopped (state : y.run.state ≠ .training) (limit : y.run.trainingLimit = none) : TimedLaw rate y := by
  simp [TimedLaw, state, limit]

theorem TimedLaw.stopped {st : SiteState} (h : TimedLaw rate x) (state : x.run.state = st) (other : st ≠ .training) :
    x.run.trainingLimit = none := by
  rw [TimedLaw, state] at h
  simpa using mt h.mpr other

theorem timedLaw : SiteLaw known TimedLaw where
  change := by
    intro rate rs x y h change
    cases change
    case minor same => exact minor_keeps (law := TimedLaw rate) (fun _ => Iff.rfl) same h
    case cause c _ => simpa [TimedLaw] using h
    case retire leaving =>
      rcases leaving with state | state | ⟨state, -⟩ <;>
        exact .of_stopped (by simp [retiredSite]) (h.stopped state (by decide))
    case abandon running =>
      rcases running with state | state <;>
        exact .of_stopped (by simp [abandonedSite, retiredSite]) (h.stopped state (by decide))
    case drain state | prime state | activate state | release state _ | releaseDown state =>
      exact .of_stopped (by simp) (h.stopped state (by decide))
    case trainFail | trained | disable | clearIdle => exact .of_stopped (by simp) rfl
    case retrain | bringUp | clearTraining => exact ⟨fun _ => rfl, fun _ => rfl⟩
    all_goals exact h
  copy _ h _ _ := h
  rates h _ := h
  reset _ := .of_stopped (by decide) rfl

/-- A law of a single site is kept by every step when a joining keeps it as well. -/
theorem SiteLaw.step_keeps {law : LinkRate → Site → Prop} (keeps : SiteLaw False law)
    (join : ∀ {rate : LinkRate} {x : Site} (g : Geometry) (blanking : Nat), x.run.state = .idle → law rate x →
      law rate (x.joined g blanking)) (h : AllSites law s) (next : step s = .next t) : AllSites law t := by
  refine Machine.step_keeps (law := AllSites law) (fun _ _ _ _ h => h) (fun c s t h next => ?_) h next
  exact exec_keeps (known := False) (fun _ _ absurd => absurd.elim)
    (fun s t h change => keeps.keeps h change fun i _ idle _ _ => join _ _ idle (h i))
    (fun s t h upheaval => keeps.keeps_upheaval h upheaval) h next

/-- Settles O58: four laws of a single site, each kept by every change; a site joins from IDLE with FINE lock, no marks and no
limit running. -/
theorem stepsKeepLinksAndMarksWithTheirSites : Obligations.StepsKeepLinksAndMarksWithTheirSites := by
  intro s t ⟨links, newest, scheduled, timed⟩ next
  refine ⟨?_, ?_, ?_, ?_⟩
  · exact linksLaw.step_keeps (fun _ _ idle h => h.of_hearing (.inl idle) (by simp [Site.joined]) rfl rfl rfl) links next
  · exact expanderLaw.step_keeps (fun _ _ _ h => h) newest next
  · exact scheduledLaw.step_keeps (fun _ _ idle h => h.of_unmarked idle rfl rfl) scheduled next
  · exact timedLaw.step_keeps (fun _ _ idle h => .of_stopped (by simp [Site.joined]) (h.stopped idle (by decide))) timed next

end Sys2Proof.Machine
end

section
/-! What every command keeps: the queue of commands, the hub state but for its named changes, and the contents of banks in use. -/
namespace Sys2Proof.Machine

open Sys2Proof.Safety

variable {known : Prop} {s t : State} {i : SiteIx} {c : Instr}

/-! ### Requests -/

/-- Taking a request of a kind: nothing where the oldest is of another kind, else its effect and its answer (R175). -/
theorem State.takeRequest_cases (s : State) (kind : Byte) (effect : CtrlRequest → State → Answer) :
    s.takeRequest kind effect = s ∨ ∃ r rest, s.agent.intake = r :: rest ∧ r.kind = kind ∧
      s.takeRequest kind effect = (effect r (intakeLeft s rest)).after.respond r (effect r (intakeLeft s rest)).code
        (effect r (intakeLeft s rest)).data := by
  unfold State.takeRequest State.oldestRequest
  cases intake : s.agent.intake with
  | nil => exact .inl rfl
  | cons r rest =>
    by_cases same : r.kind = kind
    · exact .inr ⟨r, rest, rfl, same, by simp only [same, decide_true, if_true]; rfl⟩
    · exact .inl (by simp only [same, decide_false]; rfl)

/-- The answer to RESUME: refused, or READY (R189). -/
theorem resumeAnswer_cases (r : CtrlRequest) (s : State) :
    (resumeAnswer r s).after = s ∨ (s.hub = .holdover ∧ s.beat.seen = true
      ∧ (resumeAnswer r s).after = { s.flagHub with hub := .ready }) := by
  unfold resumeAnswer
  split
  · exact .inl rfl
  · split
    · rename_i held; exact .inr ⟨held.1, held.2, rfl⟩
    · exact .inl rfl

/-- The answer to WRITE_PROFILE: refused, or a part written in a standby bank without pending swap and references (R8). -/
theorem writeProfileAnswer_cases (r : CtrlRequest) (s : State) :
    (writeProfileAnswer r s).after = s ∨ ∃ (k : ProfileIx) (w : ProfileWrite),
      (s.profile k).pendingSwap = false ∧ (s.profile k).standbyBank.refCount = 0
      ∧ (writeProfileAnswer r s).after = s.modProfile k fun p => p.write w := by
  unfold writeProfileAnswer
  split
  · exact .inl rfl
  · split
    · exact .inl rfl
    · rename_i w _ _ k _
      split
      · exact .inl rfl
      · split
        · exact .inl rfl
        · rename_i swap
          split
          · exact .inl rfl
          · rename_i free
            exact .inr ⟨k, w, eq_false_of_ne_true swap, Classical.not_not.mp free, rfl⟩

/-- HUB_RESET: nothing, an answer to a malformed request, or the reset (R190). -/
theorem execHubReset_cases (next : execHubReset s = .next t) :
    t = s ∨ (∃ r rest, s.agent.intake = r :: rest ∧ t = (intakeLeft s rest).respond r .badRequest none)
      ∨ ∃ rest skip, t = (intakeLeft s rest).hubReset skip := by
  rcases live_eq_next s t _ next with rfl | rfl
  · exact .inl rfl
  unfold State.oldestRequest
  cases s.agent.intake with
  | nil => exact .inl rfl
  | cons r rest =>
    simp only
    by_cases kind : r.kind = 1
    · simp only [kind, decide_true, if_true]
      cases hubResetOperand r with
      | none => exact .inr (.inl ⟨r, rest, rfl, rfl⟩)
      | some skip => exact .inr (.inr ⟨rest, skip, rfl⟩)
    · simp only [kind, decide_false]
      exact .inl rfl

/-- The records that a self-test ends with leave everything but the Report Queue, the flow state, the outcome and the zeroed
banks as it was (R191). -/
theorem aside_testResults (s : State) (skipped : Bool) (r : GroupResults) : ∃ u : State, Aside u (s.testResults skipped r)
    ∧ (u = s ∨ u = s.zeroGroups) := by
  unfold State.testResults
  cases skipped with
  | true =>
    have ended := aside_enqueue s (.diag .all .skipped)
    exact ⟨s, ⟨ended.pending, ended.clock, ended.resetPin, ended.hub, ended.selfTest, ended.sites, ended.profiles,
      ended.pairs⟩, .inl rfl⟩
  | false =>
    have ended := (((aside_enqueue s.zeroGroups (.diag .profile (groupOutcome r.profile))).trans
      (aside_enqueue _ (.diag .queues (groupOutcome r.queues)))).trans
      (aside_enqueue _ (.diag .regions (groupOutcome r.regions)))).trans
      (aside_enqueue _ (.diag .report (groupOutcome r.report)))
    exact ⟨s.zeroGroups, ⟨ended.pending, ended.clock, ended.resetPin, ended.hub, ended.selfTest, ended.sites,
      ended.profiles, ended.pairs⟩, .inr rfl⟩

/-- SELFTEST_END: nothing where no self-test is in progress, else its end (R191). -/
theorem execSelftestEnd_cases {r : GroupResults} (next : execSelftestEnd r s = .next t) :
    t = s ∨ ∃ test, s.selfTest = some test ∧ t = ((s.reach test.endsAt).testResults test.skipped r).becomeReady := by
  rcases live_eq_next s t _ next with rfl | rfl
  · exact .inl rfl
  cases running : s.selfTest with
  | none => exact .inl rfl
  | some test => exact .inr ⟨test, rfl, rfl⟩

/-- WRITE_PROFILE: nothing, a refusal, or a write that is answered (R8). -/
theorem execWriteProfile_cases (next : execWriteProfile s = .next t) :
    t = s ∨ ∃ r rest code data, s.agent.intake = r :: rest ∧ (t = (intakeLeft s rest).respond r code data
      ∨ ∃ (k : ProfileIx) (w : ProfileWrite), (s.profile k).pendingSwap = false ∧ (s.profile k).standbyBank.refCount = 0
        ∧ t = ((intakeLeft s rest).modProfile k fun p => p.write w).respond r code data) := by
  rcases live_eq_next s t _ next with rfl | rfl
  · exact .inl rfl
  rcases s.takeRequest_cases 4 writeProfileAnswer with h | ⟨r, rest, waiting, -, h⟩ <;> rw [h]
  · exact .inl rfl
  · refine .inr ⟨r, rest, (writeProfileAnswer r (intakeLeft s rest)).code,
      (writeProfileAnswer r (intakeLeft s rest)).data, waiting, ?_⟩
    rcases writeProfileAnswer_cases r (intakeLeft s rest) with h | ⟨k, w, swap, free, h⟩ <;> rw [h]
    · exact .inl rfl
    · exact .inr ⟨k, w, swap, free, rfl⟩

/-- RESUME: nothing, a refusal, or READY from HOLDOVER (R189). -/
theorem execResume_cases (next : execResume s = .next t) :
    t = s ∨ ∃ r rest code data, s.agent.intake = r :: rest ∧ (t = (intakeLeft s rest).respond r code data
      ∨ (s.hub = .holdover ∧ s.beat.seen = true
        ∧ t = ({ (intakeLeft s rest).flagHub with hub := .ready } : State).respond r code data)) := by
  rcases live_eq_next s t _ next with rfl | rfl
  · exact .inl rfl
  rcases s.takeRequest_cases 16 resumeAnswer with h | ⟨r, rest, waiting, -, h⟩ <;> rw [h]
  · exact .inl rfl
  · refine .inr ⟨r, rest, (resumeAnswer r (intakeLeft s rest)).code, (resumeAnswer r (intakeLeft s rest)).data, waiting, ?_⟩
    rcases resumeAnswer_cases r (intakeLeft s rest) with h | ⟨held, seen, h⟩ <;> rw [h]
    · exact .inl rfl
    · exact .inr ⟨held, seen, rfl⟩

/-- TRUNK_SYMBOL_LOCK_LOSS: nothing, the loss of an UP link, or the fall of a link that trains (R185). -/
theorem execTrunkSymbolLockLoss_cases (next : execTrunkSymbolLockLoss s = .next t) :
    t = s ∨ t = s.trunkLost .down ∨ t = { s with trunk := { s.trunk with link := .down, sequences := 0 } } := by
  rcases live_eq_next s t _ next with rfl | rfl
  · exact .inl rfl
  split
  · exact .inr (.inl rfl)
  · exact .inr (.inr rfl)

theorem execMainframeRestart_cases (next : execMainframeRestart s = .next t) : t = s ∨ t = s.trunkLost .training := by
  rcases live_eq_next s t _ next with rfl | rfl
  · exact .inl rfl
  split
  · exact .inr rfl
  · exact .inl rfl

theorem execBeatExpiry_cases (next : execBeatExpiry s = .next t) :
    t = s ∨ ∃ n, s.beatDue = some n ∧ t = (s.reach n).beatExpire := by
  rcases live_eq_next s t _ next with rfl | rfl
  · exact .inl rfl
  cases due : s.beatDue with
  | none => exact .inl rfl
  | some n => exact .inr ⟨n, rfl, rfl⟩

/-! ### The queue of commands -/

/-- The queue of commands stands and the clock does not turn back. -/
def Onward (s t : State) : Prop := t.pending = s.pending ∧ s.clock ≤ t.clock

theorem Onward.refl (s : State) : Onward s s := ⟨rfl, Nat.le_refl _⟩

theorem Onward.trans {u : State} (h : Onward s t) (h' : Onward t u) : Onward s u :=
  ⟨h'.1.trans h.1, Nat.le_trans h.2 h'.2⟩

theorem Aside.onward (h : Aside s t) : Onward s t := ⟨h.pending, h.clock⟩

theorem Change.onward (h : Change known s t) : Onward s t := by
  cases h with
  | aside quiet => exact quiet.onward
  | site i moved => rw [State.dropRefs_frame]; exact .refl _
  | copy i d k _ mode _ => rw [State.copyBurst_eq d mode]; exact .refl _
  | join => rw [State.join_eq]; exact .refl _
  | swap | requestSwap | setPair => exact .refl _

theorem Changes.onward (h : Changes known s t) : Onward s t := by
  induction h with
  | refl => exact .refl _
  | tail _ last ih => exact ih.trans last.onward

theorem onward_beatExpire (s : State) : Onward s s.beatExpire := by
  unfold State.beatExpire
  simp only
  split <;> exact .refl _

theorem onward_trunkLost (target : LinkState) : Onward s (s.trunkLost target) := by
  unfold State.trunkLost
  simp only
  split
  · exact .refl _
  · exact (Onward.refl _).trans (onward_beatExpire _)

theorem exec_onward (next : exec c s = .next t) : Onward s t := by
  cases ordinary : isOrdinary c with
  | true => exact (exec_changes (known := False) (fun no => no.elim) ordinary next).onward
  | false =>
    cases c
    case powerOnReset =>
      simp only [exec, execPowerOnReset, Host.Outcome.next.injEq] at next
      subst next
      split <;> exact ⟨rfl, Nat.le_refl _⟩
    case resetPin =>
      simp only [exec, execResetPin, Host.Outcome.next.injEq] at next
      subst next
      exact ⟨rfl, Nat.le_refl _⟩
    case resetPinRelease =>
      simp only [exec, execResetPinRelease, Host.Outcome.next.injEq] at next
      subst next
      split <;> exact .refl _
    case selftestEnd r =>
      rcases execSelftestEnd_cases next with rfl | ⟨test, -, rfl⟩
      · exact .refl _
      · obtain ⟨u, ended, begun⟩ := aside_testResults (s.reach test.endsAt) test.skipped r
        have from_start : Onward s u := by rcases begun with rfl | rfl <;> exact (aside_reach s _).onward
        exact from_start.trans ended.onward
    case hubReset =>
      rcases execHubReset_cases next with rfl | ⟨r, rest, -, rfl⟩ | ⟨rest, skip, rfl⟩
      · exact .refl _
      · exact ((aside_agent _).trans (aside_respond _ _ _ _)).onward
      · exact ⟨rfl, Nat.le_refl _⟩
    case writeProfile =>
      rcases execWriteProfile_cases next with rfl | ⟨r, rest, code, data, -, rfl | ⟨k, w, -, -, rfl⟩⟩
      · exact .refl _
      · exact (aside_respond (intakeLeft s rest) _ _ _).onward
      · exact (aside_respond ((intakeLeft s rest).modProfile k fun p => p.write w) _ _ _).onward
    case resume =>
      rcases execResume_cases next with rfl | ⟨r, rest, code, data, -, rfl | ⟨-, -, rfl⟩⟩
      · exact .refl _
      · exact (aside_respond (intakeLeft s rest) _ _ _).onward
      · exact (aside_respond ({ (intakeLeft s rest).flagHub with hub := .ready } : State) _ _ _).onward
    case trunkSymbolLockLoss =>
      rcases execTrunkSymbolLockLoss_cases next with rfl | rfl | rfl
      · exact .refl _
      · exact onward_trunkLost _
      · exact .refl _
    case mainframeRestart =>
      rcases execMainframeRestart_cases next with rfl | rfl
      · exact .refl _
      · exact onward_trunkLost _
    case beatExpiry =>
      rcases execBeatExpiry_cases next with rfl | ⟨n, -, rfl⟩
      · exact .refl _
      · exact (aside_reach s n).onward.trans (onward_beatExpire _)
    all_goals cases ordinary

/-- Every command ends in a next state: none is refused, and none faults. -/
theorem exec_total (c : Instr) (s : State) : ∃ t : State, exec c s = .next t := by
  cases c <;> exact ⟨_, rfl⟩

/-- Settles O2: every command ends in a next state, and each change of a command keeps the queue and the clock. -/
theorem commandsCompleteAndKeepTheQueue : Obligations.CommandsCompleteAndKeepTheQueue := by
  intro c s
  obtain ⟨t, next⟩ := exec_total c s
  obtain ⟨pending, clock⟩ := exec_onward next
  exact ⟨t, next, pending, clock⟩

/-- Settles O1: a waiting command is the next one. -/
theorem stepTakesTheFrontCommand : Obligations.StepTakesTheFrontCommand := by
  intro s c rest waiting
  simp only [step, waiting]

/-! ### The hub state -/

theorem Change.hub (h : Change known s t) : t.hub = s.hub := by
  cases h with
  | aside quiet => exact quiet.hub
  | site i moved => rw [State.dropRefs_frame]; rfl
  | copy i d k _ mode _ => rw [State.copyBurst_eq d mode]; rfl
  | join => rw [State.join_eq]; rfl
  | swap | requestSwap | setPair => rfl

theorem Changes.hub (h : Changes known s t) : t.hub = s.hub := by
  induction h with
  | refl => rfl
  | tail _ last ih => exact last.hub.trans ih

theorem exec_hub_of_ordinary (ordinary : isOrdinary c = true) (next : exec c s = .next t) : t.hub = s.hub :=
  (exec_changes (known := False) (fun no => no.elim) ordinary next).hub

/-- The ways in which a hub state turns into another. -/
inductive HubTurn (c : Instr) (s t : State) : Prop
  | kept : t.hub = s.hub → HubTurn c s t
  | reset : t.hub = .selftest → c = .powerOnReset ∨ c = .resetPin ∨ c = .hubReset → HubTurn c s t
  | tested (r : GroupResults) : c = .selftestEnd r → s.selfTest.isSome = true → t.hub = .ready → HubTurn c s t
  | resumed : c = .resume → s.hub = .holdover → s.beat.seen = true → t.hub = .ready → HubTurn c s t
  | heldOver : s.hub = .ready → t.hub = .holdover → s.beat.limit ≠ 0 → t.beat.seen = false →
      t.report.hubPending = true → c ∈ ([.beatExpiry, .trunkSymbolLockLoss, .mainframeRestart] : List Instr) →
      HubTurn c s t

/-- An expiry of the beat detector makes READY HOLDOVER and keeps any other state (R188). -/
theorem State.beatExpire_hub (u : State) : u.beatExpire.hub = u.hub ∨ (u.hub = .ready ∧ u.beatExpire.hub = .holdover
    ∧ u.beatExpire.beat.seen = false ∧ u.beatExpire.report.hubPending = true) := by
  unfold State.beatExpire
  simp only
  split
  · rename_i ready; exact .inr ⟨ready, rfl, rfl, rfl⟩
  · exact .inl rfl

theorem State.beatDue_limit {n : Nat} (h : s.beatDue = some n) : s.beat.limit ≠ 0 := by
  intro zero
  simp [State.beatDue, zero] at h

theorem hubTurn_trunkLost {target : LinkState} (named : c ∈ ([.beatExpiry, .trunkSymbolLockLoss, .mainframeRestart] : List Instr)) :
    HubTurn c s (s.trunkLost target) := by
  unfold State.trunkLost
  simp only
  split
  · exact .kept rfl
  · rename_i on
    rcases State.beatExpire_hub { s with trunk := s.trunk.lose target } with same | ⟨ready, hub, seen, flag⟩
    · exact .kept same
    · exact .heldOver ready hub on seen flag named

theorem exec_hubTurn (next : exec c s = .next t) : HubTurn c s t := by
  cases ordinary : isOrdinary c with
  | true => exact .kept (exec_hub_of_ordinary ordinary next)
  | false =>
    cases c
    case powerOnReset =>
      simp only [exec, execPowerOnReset, Host.Outcome.next.injEq] at next
      subst next
      exact .reset (by split <;> rfl) (.inl rfl)
    case resetPin =>
      simp only [exec, execResetPin, Host.Outcome.next.injEq] at next
      subst next
      exact .reset rfl (.inr (.inl rfl))
    case resetPinRelease =>
      simp only [exec, execResetPinRelease, Host.Outcome.next.injEq] at next
      subst next
      exact .kept (by split <;> rfl)
    case selftestEnd r =>
      rcases execSelftestEnd_cases next with rfl | ⟨test, running, rfl⟩
      · exact .kept rfl
      · exact .tested r rfl (by rw [running]; rfl) rfl
    case hubReset =>
      rcases execHubReset_cases next with rfl | ⟨r, rest, -, rfl⟩ | ⟨rest, skip, rfl⟩
      · exact .kept rfl
      · exact .kept (aside_respond _ _ _ _).hub
      · exact .reset rfl (.inr (.inr rfl))
    case writeProfile =>
      rcases execWriteProfile_cases next with rfl | ⟨r, rest, code, data, -, rfl | ⟨k, w, -, -, rfl⟩⟩
      · exact .kept rfl
      · exact .kept (aside_respond (intakeLeft s rest) _ _ _).hub
      · exact .kept (aside_respond ((intakeLeft s rest).modProfile k fun p => p.write w) _ _ _).hub
    case resume =>
      rcases execResume_cases next with rfl | ⟨r, rest, code, data, -, rfl | ⟨held, seen, rfl⟩⟩
      · exact .kept rfl
      · exact .kept (aside_respond (intakeLeft s rest) _ _ _).hub
      · exact .resumed rfl held seen
          (aside_respond ({ (intakeLeft s rest).flagHub with hub := .ready } : State) _ _ _).hub
    case trunkSymbolLockLoss =>
      rcases execTrunkSymbolLockLoss_cases next with rfl | rfl | rfl
      · exact .kept rfl
      · exact hubTurn_trunkLost (by simp)
      · exact .kept rfl
    case mainframeRestart =>
      rcases execMainframeRestart_cases next with rfl | rfl
      · exact .kept rfl
      · exact hubTurn_trunkLost (by simp)
    case beatExpiry =>
      rcases execBeatExpiry_cases next with rfl | ⟨n, due, rfl⟩
      · exact .kept rfl
      · rcases (s.reach n).beatExpire_hub with same | ⟨ready, hub, seen, flag⟩
        · exact .kept same
        · exact .heldOver ready hub (State.beatDue_limit due) seen flag (by simp)
    all_goals cases ordinary

/-- Settles O52: each change of the hub state is one of `HubTurn`, and outside SELFTEST no self-test is in progress. -/
theorem onlyTheseEventsChangeTheHubState : Obligations.OnlyTheseEventsChangeTheHubState := by
  intro s t c next
  refine ⟨fun was is => ?_, fun was is => ?_, fun quiet was is => ?_, fun was is => ?_⟩ <;>
    cases exec_hubTurn next
  case refine_1.kept same => exact absurd (same.trans was) is
  case refine_1.reset hub _ => exact absurd hub is
  case refine_1.tested r named _ _ => exact ⟨r, named⟩
  case refine_1.resumed _ held _ _ => rw [was] at held; cases held
  case refine_1.heldOver ready _ _ _ _ _ => rw [was] at ready; cases ready
  case refine_2.kept same => exact absurd (same.symm.trans is) was
  case refine_2.reset _ named => exact named
  case refine_2.tested _ _ _ hub => rw [is] at hub; cases hub
  case refine_2.resumed _ _ _ hub => rw [is] at hub; cases hub
  case refine_2.heldOver _ hub _ _ _ _ => rw [is] at hub; cases hub
  case refine_3.kept same => exact absurd (same.trans was) is
  case refine_3.reset _ named => exact .inr named
  case refine_3.tested _ _ running _ =>
    have selftest := quiet.1 running
    rw [was] at selftest
    cases selftest
  case refine_3.resumed named _ seen hub => exact .inl ⟨named, seen, hub⟩
  case refine_3.heldOver ready _ _ _ _ _ => rw [was] at ready; cases ready
  case refine_4.kept same => exact absurd (same.symm.trans is) was
  case refine_4.reset hub _ => rw [is] at hub; cases hub
  case refine_4.tested _ _ _ hub => rw [is] at hub; cases hub
  case refine_4.resumed _ held _ _ => exact absurd held was
  case refine_4.heldOver ready _ limit seen flag named => exact ⟨ready, limit, seen, flag, named⟩

/-! ### Bank contents -/

theorem State.bank_profile (s : State) (r : BankRef) : s.bank r = (s.profile r.profile).bank r.bank := rfl

/-- A requested swap leaves the contents of both banks. -/
theorem Profile.tables_requestSwap (p : Profile) (name : BankName) :
    (p.requestSwap.bank name).tables = (p.bank name).tables := by
  unfold Profile.requestSwap Profile.standby
  cases p.active <;> cases name <;> rfl

/-- The standby bank is not the active one. -/
theorem Profile.standby_ne_active (p : Profile) : p.standby ≠ p.active := by
  unfold Profile.standby
  cases p.active <;> decide

/-- An ordinary change leaves the contents of every bank. -/
theorem Change.tables (h : Change known s t) (r : BankRef) : (t.bank r).tables = (s.bank r).tables := by
  cases h with
  | aside quiet => rw [State.bank_profile, State.profile, quiet.profiles]; rfl
  | site i moved => rw [State.bank_modSite, State.tables_dropRefs]
  | copy i d k active mode room =>
    rw [State.copyBurst_eq d mode, State.bank_modSite, State.bank_addRef]
    split
    · rename_i same; rw [same]
    · rfl
  | join => rw [State.join_eq]; rfl
  | swap k =>
    simp only [State.bank, State.profile_modProfile]
    split
    · rename_i same; rw [same]; unfold Profile.swap; split <;> cases r.bank <;> rfl
    · rfl
  | requestSwap k =>
    simp only [State.bank, State.profile_modProfile]
    split
    · rename_i same
      rw [same, Profile.tables_requestSwap]
    · rfl
  | setPair => rfl

theorem Changes.tables (h : Changes known s t) (r : BankRef) : (t.bank r).tables = (s.bank r).tables := by
  induction h with
  | refl => rfl
  | tail _ last ih => exact (last.tables r).trans ih

theorem profiles_trunkLost (s : State) (target : LinkState) : (s.trunkLost target).profiles = s.profiles := by
  unfold State.trunkLost State.beatExpire
  simp only
  split
  · rfl
  · split <;> rfl

/-- Short of power-on and of the end of a self-test, the extraordinary commands leave the banks, write a standby bank, or reset
the banks and keep their contents (R8, R12, R23). -/
theorem exec_contents {k : ProfileIx} (extraordinary : isOrdinary c = false) (notPower : c ≠ .powerOnReset)
    (notTest : ∀ r : GroupResults, c ≠ .selftestEnd r) (next : exec c s = .next t) :
    t.profiles = s.profiles
      ∨ (∃ (l : ProfileIx) (w : ProfileWrite), (s.profile l).standbyBank.refCount = 0
        ∧ t.profile k = (s.modProfile l fun p => p.write w).profile k)
      ∨ t.profile k = Profile.reset (s.profile k).bankA.tables (s.profile k).bankB.tables := by
  cases c
  case powerOnReset => exact absurd rfl notPower
  case selftestEnd r => exact absurd rfl (notTest r)
  case resetPin =>
    simp only [exec, execResetPin, Host.Outcome.next.injEq] at next
    subst next
    exact .inr (.inr (profile_keepContents _ k))
  case resetPinRelease =>
    simp only [exec, execResetPinRelease, Host.Outcome.next.injEq] at next
    subst next
    exact .inl (by split <;> rfl)
  case hubReset =>
    rcases execHubReset_cases next with rfl | ⟨r, rest, -, rfl⟩ | ⟨rest, skip, rfl⟩
    · exact .inl rfl
    · exact .inl (aside_respond _ _ _ _).profiles
    · exact .inr (.inr (profile_keepContents _ k))
  case writeProfile =>
    rcases execWriteProfile_cases next with rfl | ⟨r, rest, code, data, -, rfl | ⟨l, w, -, free, rfl⟩⟩
    · exact .inl rfl
    · exact .inl (aside_respond _ _ _ _).profiles
    · refine .inr (.inl ⟨l, w, free, ?_⟩)
      rw [State.profile, (aside_respond _ _ _ _).profiles]
      rfl
  case resume =>
    rcases execResume_cases next with rfl | ⟨r, rest, code, data, -, rfl | ⟨-, -, rfl⟩⟩
    · exact .inl rfl
    · exact .inl (aside_respond _ _ _ _).profiles
    · exact .inl (aside_respond _ _ _ _).profiles
  case trunkSymbolLockLoss =>
    rcases execTrunkSymbolLockLoss_cases next with rfl | rfl | rfl
    · exact .inl rfl
    · exact .inl (profiles_trunkLost s _)
    · exact .inl rfl
  case mainframeRestart =>
    rcases execMainframeRestart_cases next with rfl | rfl
    · exact .inl rfl
    · exact .inl (profiles_trunkLost s _)
  case beatExpiry =>
    rcases execBeatExpiry_cases next with rfl | ⟨n, -, rfl⟩
    · exact .inl rfl
    · exact .inl (by unfold State.beatExpire; simp only; split <;> rfl)
  all_goals cases extraordinary

/-- Settles O53: an ordinary change writes no bank, and WRITE_PROFILE writes a standby bank without references alone. -/
theorem banksInUseAreNeverWritten : Obligations.BanksInUseAreNeverWritten := by
  intro s t c k name next used notPower notTest
  cases ordinary : isOrdinary c with
  | true => exact (exec_changes (known := False) (fun no => no.elim) ordinary next).tables ⟨k, name⟩
  | false =>
    rcases exec_contents ordinary notPower notTest next with same | ⟨l, w, free, written⟩ | kept
    · rw [State.profile, same]; rfl
    · rw [written, State.profile_modProfile]
      split
      · rename_i same
        subst same
        rw [Profile.write, Profile.bank_modBank_ne]
        rintro rfl
        rcases used with active | bound
        · exact Profile.standby_ne_active _ active
        · exact bound free
      · rfl
    · rw [kept]
      cases name <;> rfl

/-! ### The hub after reset -/

theorem State.site_reset (i : SiteIx) : State.reset.site i = Site.reset := Vector.getElem_replicate _

theorem allSites_reset {law : LinkRate → Site → Prop} (keeps : SiteLaw False law) : AllSites law State.reset := fun i => by
  rw [State.site_reset]
  exact keeps.reset _

/-- Settles O60: the laws of one site hold of a site at reset, and the others speak of empty banks, queues and counts. -/
theorem resetMeetsTheLaws : Obligations.ResetMeetsTheLaws := by
  have copies : AllSites CopiesLaw State.reset := allSites_reset copiesLaw
  refine ⟨allSites_reset marksLaw, fun i => (copies i).1, fun i => (copies i).2, ?_, ?_, ?_, ?_, ?_, ⟨rfl, by decide⟩,
    ⟨by decide, by decide⟩, ⟨by decide, by decide⟩, allSites_reset linksLaw, allSites_reset expanderLaw,
    allSites_reset scheduledLaw, allSites_reset timedLaw, ?_, ?_, ?_⟩
  · exact ⟨fun _ => rfl, fun _ => rfl, fun _ => ⟨rfl, rfl, rfl, rfl, rfl, rfl, rfl, fun k => by
      rw [profile_reset]; exact ⟨rfl, rfl, rfl, rfl, rfl⟩⟩⟩
  · intro k
    rw [profile_reset]
    exact ⟨nofun, nofun, nofun⟩
  · intro i
    simp only [SiteGeometryLocked, SiteHasProfile, State.site_reset]
    exact ⟨nofun, fun disabled => absurd rfl disabled⟩
  · intro k
    have none (r : BankRef) : copiesBound State.reset r = 0 := by
      simp only [copiesBound, State.site_reset]
      rfl
    rw [none, none, profile_reset]
    exact ⟨rfl, rfl⟩
  · intro i r bound
    rw [State.site_reset] at bound
    cases bound
  · intro i
    rw [State.site_reset]
    refine ⟨by decide, by decide, fun g => ?_⟩
    rw [region_of_siteReset]
    decide
  · intro i _
    rw [State.site_reset]
    exact ⟨rfl, rfl, rfl, rfl, rfl, rfl, rfl, rfl, rfl, rfl, rfl, rfl, rfl, rfl, rfl, rfl, rfl, rfl, rfl⟩
  · intro i
    simp only [State.site_reset, region_of_siteReset]
    simp [Site.reset, RunRecord.reset]

end Sys2Proof.Machine
end

section
/-! The events of one site, as moves inside the site, readings of the flow state and admissions of FAIL records: what they reach
(O51), and what the Report Queue and the Flow Monitor see of them. -/
namespace Sys2Proof.Machine

open Sys2Proof.Safety

variable {s t u : State} {i : SiteIx} {c : Instr}

/-- What the Flow Monitor sees of a site: the length of the launch queue in ACTIVE (R57, R58). -/
def Site.level (x : Site) : Option Nat := if x.run.state = .active then some x.head.launchQueue.length else none

theorem Site.level_of_other {x : Site} (h : x.run.state ≠ .active) : x.level = none := if_neg h

theorem Site.level_congr {x y : Site} (state : y.run.state = x.run.state)
    (queue : y.head.launchQueue = x.head.launchQueue) : y.level = x.level := by
  rw [level, level, state, queue]

/-- What happens inside site `i`: the site but for its configuration, reference counts, the clock and the free values. -/
structure Inside (i : SiteIx) (s t : State) : Prop where
  others : ∀ j : SiteIx, j ≠ i → t.site j = s.site j
  config : (t.site i).config = (s.site i).config
  rest : t = { s with clock := t.clock, freeIndex := t.freeIndex, profiles := t.profiles, sites := t.sites }
  banks : ∀ (k : ProfileIx) (name : BankName),
    (t.profile k).active = (s.profile k).active ∧ (t.profile k).pendingSwap = (s.profile k).pendingSwap
      ∧ (t.profile k).bank name = { (s.profile k).bank name with refCount := ((t.profile k).bank name).refCount }

theorem Inside.refl (s : State) : Inside i s s := ⟨fun _ _ => rfl, rfl, rfl, fun _ _ => ⟨rfl, rfl, rfl⟩⟩

theorem Inside.trans (h : Inside i s t) (h' : Inside i t u) : Inside i s u := by
  refine ⟨fun j other => (h'.others j other).trans (h.others j other), h'.config.trans h.config, ?_, fun k name => ?_⟩
  · rw [h'.rest, h.rest]
  · obtain ⟨active, swap, bank⟩ := h.banks k name
    obtain ⟨active', swap', bank'⟩ := h'.banks k name
    exact ⟨active'.trans active, swap'.trans swap, by rw [bank', bank]⟩

theorem inside_modSite {f : Site → Site} (config : (f (s.site i)).config = (s.site i).config) :
    Inside i s (s.modSite i f) :=
  ⟨fun _ other => State.site_modSite_ne s other f, by rw [State.site_modSite_same]; exact config, rfl,
    fun _ _ => ⟨rfl, rfl, rfl⟩⟩

theorem inside_reach (n : Nat) : Inside i s (s.reach n) := ⟨fun _ _ => rfl, rfl, rfl, fun _ _ => ⟨rfl, rfl, rfl⟩⟩

theorem inside_freeIndex (n : Nat) : Inside i s { s with freeIndex := n } :=
  ⟨fun _ _ => rfl, rfl, rfl, fun _ _ => ⟨rfl, rfl, rfl⟩⟩

theorem profile_dropRef (s : State) (r : BankRef) (k : ProfileIx) : ((s.dropRef r).profile k).active = (s.profile k).active
    ∧ ((s.dropRef r).profile k).pendingSwap = (s.profile k).pendingSwap := by
  rw [State.dropRef, State.modBank_eq, State.profile_modProfile]
  split
  · rename_i same
    rw [same]
    exact ⟨Profile.active_modBank _ _ _, Profile.pendingSwap_modBank _ _ _⟩
  · exact ⟨rfl, rfl⟩

theorem profile_dropRefs (s : State) (rs : List BankRef) (k : ProfileIx) :
    ((s.dropRefs rs).profile k).active = (s.profile k).active
      ∧ ((s.dropRefs rs).profile k).pendingSwap = (s.profile k).pendingSwap := by
  induction rs generalizing s with
  | nil => exact ⟨rfl, rfl⟩
  | cons r rs ih =>
    obtain ⟨active, swap⟩ := ih (s.dropRef r)
    obtain ⟨active', swap'⟩ := profile_dropRef s r k
    exact ⟨active.trans active', swap.trans swap'⟩

theorem inside_dropRefs (rs : List BankRef) : Inside i s (s.dropRefs rs) := by
  refine ⟨fun j _ => s.site_dropRefs j rs, by rw [State.site_dropRefs], ?_, fun k name => ?_⟩
  · rw [State.dropRefs_frame]
  · obtain ⟨active, swap⟩ := profile_dropRefs s rs k
    have bank := s.bank_dropRefs rs ⟨k, name⟩
    exact ⟨active, swap, by rw [← State.bank_profile _ ⟨k, name⟩, bank]; rfl⟩

/-- Copies leave and the site changes. -/
theorem inside_dropped {rs : List BankRef} {f : Site → Site} (config : (f (s.site i)).config = (s.site i).config) :
    Inside i s ((s.dropRefs rs).modSite i f) :=
  (inside_dropRefs rs).trans (inside_modSite (by rw [State.site_dropRefs]; exact config))

/-- The moves of a site event: inside the site and unseen by the Flow Monitor, inside the site and followed by its reading, or a
record that is no response at the tail of the Report Queue. -/
inductive SiteMove (i : SiteIx) : State → State → Prop
  | unseen {s t : State} : Inside i s t → (t.site i).level = (s.site i).level → SiteMove i s t
  | seen {s t : State} : Inside i s t → SiteMove i s t.readFlow
  | enqueued {s : State} (r : Record) : r.isResponse = false → s.report.queue.length < 252 → SiteMove i s (s.enqueue r)

/-- Some moves, one after another. -/
abbrev SiteMoves (i : SiteIx) : State → State → Prop := Runs (SiteMove i)

theorem SiteMoves.unseen (h : Inside i s t) (level : (t.site i).level = (s.site i).level) : SiteMoves i s t :=
  .single (.unseen h level)

/-- The site changes unseen by the Flow Monitor. -/
theorem SiteMoves.site {f : Site → Site} (config : (f (s.site i)).config = (s.site i).config)
    (level : (f (s.site i)).level = (s.site i).level) : SiteMoves i s (s.modSite i f) :=
  .unseen (inside_modSite config) (by rw [State.site_modSite_same]; exact level)

theorem SiteMoves.reach (n : Nat) : SiteMoves i s (s.reach n) := .unseen (inside_reach n) rfl

theorem SiteMoves.dropped {rs : List BankRef} {f : Site → Site} (config : (f (s.site i)).config = (s.site i).config)
    (level : (f (s.site i)).level = (s.site i).level) : SiteMoves i s ((s.dropRefs rs).modSite i f) :=
  .unseen (inside_dropped config) (by rw [State.site_modSite_same, State.site_dropRefs]; exact level)

theorem SiteMoves.seen (h : Inside i s t) : SiteMoves i s t.readFlow := .single (.seen h)

/-! ### Causes -/

theorem inside_recordCause (k : Cause) : Inside i s (s.recordCause i k) := by
  rw [State.recordCause_eq]
  exact inside_modSite rfl

theorem inside_startDrain : Inside i s (s.startDrain i) := by
  rw [State.startDrain_eq]
  refine inside_dropped ?_
  simp only
  split <;> rfl

/-- A cause stays inside its site, whatever its kind and the site's state (R71). -/
theorem inside_raiseCauseQuiet (k : Cause) : Inside i s (s.raiseCauseQuiet i k) := by
  have recorded := inside_recordCause (s := s) (i := i) k
  have retired {v : State} : Inside i v (v.retire i) := by
    rw [State.retire_eq]
    exact inside_modSite rfl
  have abandoned {v : State} : Inside i v (v.abandon i) := by
    rw [State.abandon_eq]
    exact inside_dropped rfl
  unfold State.raiseCauseQuiet
  split
  · exact recorded.trans retired
  · exact recorded.trans retired
  · exact recorded.trans retired
  · exact recorded.trans retired
  · exact recorded.trans inside_startDrain
  · exact recorded.trans abandoned
  · exact recorded.trans abandoned
  · exact recorded

theorem moves_raiseCause (k : Cause) : SiteMoves i s (s.raiseCause i k) := .seen (inside_raiseCauseQuiet k)

/-! ### Results -/

theorem SiteMoves.foldl {α : Type} (f : State → α → State) (xs : List α) (h : ∀ (u : State) (a : α), SiteMoves i u (f u a)) :
    SiteMoves i s (xs.foldl f s) := by
  induction xs generalizing s with
  | nil => exact .refl
  | cons a xs ih => exact (h s a).trans ih

theorem moves_cellEvent (g : RegionIx) (row col : Nat) : SiteMoves i s (s.cellEvent i g row col) := by
  rw [State.cellEvent_eq]
  have taken : SiteMoves i s (s.modSite i fun x => x.judged g row col) := .site rfl rfl
  split
  · exact taken.trans (moves_raiseCause _)
  · exact taken

theorem moves_offerFail (r : FailRecord) : SiteMoves i s (s.offerFail i r) := by
  unfold State.offerFail
  split
  · split
    · rename_i room
      unfold State.admitFail
      rw [State.modReports_eq]
      refine Runs.trans ?_ (.single (.enqueued _ rfl ?_))
      · exact SiteMoves.site rfl rfl
      · rw [State.report_modSite]; omega
    · unfold State.dropFail
      simp only
      split
      · rw [State.modReports_eq]
        exact SiteMoves.site rfl rfl
      · rw [State.modReports_eq, State.modRun_eq, State.flagSite_eq, State.modSite_modSite, State.modSite_modSite]
        exact SiteMoves.site rfl rfl
  · exact .refl

theorem moves_mapEntry (t : Tables) (d : Descriptor) (v : Nat) (mask : Half) : SiteMoves i s (s.mapEntry i t d v mask) := by
  unfold State.mapEntry
  simp only
  split
  · exact .refl
  · refine Runs.trans ?_ (SiteMoves.foldl _ _ fun u k => moves_cellEvent _ _ _)
    refine Runs.trans ?_ (moves_offerFail _)
    rw [State.countFails, State.modMapper_eq]
    exact SiteMoves.site rfl rfl

theorem moves_takeFails (t : Tables) (d : Descriptor) (es : List FailEntry) : SiteMoves i s (s.takeFails i t d es) := by
  unfold State.takeFails
  generalize (none : Option Nat) = last
  induction es generalizing s last with
  | nil => exact .refl
  | cons e es ih =>
    rw [List.foldl_cons]
    unfold State.takeEntry
    split
    · refine Runs.trans ?_ (ih _)
      rw [State.modMapper_eq]
      exact SiteMoves.site rfl rfl
    · exact (moves_mapEntry _ _ _ _).trans (ih _)

theorem moves_endDrain : SiteMoves i s (s.endDrain i) := by
  rw [State.endDrain_eq]
  by_cases ended : (s.site i).run.state = .draining ∧ (s.site i).head.inFlight = []
  · refine SiteMoves.site (by rw [if_pos ended]; rfl) ?_
    rw [if_pos ended]
    exact (Site.level_of_other (by simp [retiredSite])).trans (Site.level_of_other (by simp [ended.1])).symm
  · exact SiteMoves.site (by rw [if_neg ended]) (by rw [if_neg ended])

theorem moves_takeMatch (k : Nat) (record : InFlight) (done : Bool) (es : List FailEntry) :
    SiteMoves i s (s.takeMatch i k record done es) := by
  have retired : SiteMoves i s (s.retireRecords i k) := by
    rw [State.retireRecords_eq]
    exact SiteMoves.dropped rfl rfl
  unfold State.takeMatch
  simp only
  refine Runs.trans ?_ moves_endDrain
  have flagged : SiteMoves i s
      (if 0 < k ∨ done = false then (s.retireRecords i k).giveMapIncomplete i else s.retireRecords i k) := by
    split
    · refine retired.trans ?_
      rw [State.giveMapIncomplete_eq]
      exact SiteMoves.site rfl rfl
    · exact retired
  split
  · exact flagged.trans (moves_takeFails _ _ _)
  · exact flagged

theorem moves_resultFrame (f : Option ResultFrame) : SiteMoves i s (s.resultFrame i f) := by
  have counted {g : FailCounters → FailCounters} : SiteMoves i s (s.modMapper i g) := by
    rw [State.modMapper_eq]
    exact SiteMoves.site rfl rfl
  unfold State.resultFrame
  split
  · split
    · split
      · unfold State.takeResult
        split
        · split
          · exact moves_takeMatch _ _ _ _
          · exact .refl
        · exact counted
      · exact counted
    · exact counted
  · exact counted

/-! ### Telemetry -/

theorem moves_takePhase (stood : SiteState) (e : Int) : SiteMoves i s (s.takePhase i stood e) := by
  unfold State.takePhase
  split
  · rw [State.loopUpdate_eq]
    exact SiteMoves.site rfl rfl
  · exact .refl

theorem moves_modSupply {f : SiteSupply → SiteSupply} : SiteMoves i s (s.modSupply i f) := by
  rw [State.modSupply_eq]
  exact SiteMoves.site rfl rfl

theorem moves_takeSample (current : Nat) : SiteMoves i s (s.takeSample i current) := by
  have noted : SiteMoves i s (s.noteCurrent i current) := moves_modSupply
  unfold State.takeSample
  simp only
  split
  · split
    · exact noted.trans moves_modSupply
    · unfold State.compareSample
      simp only
      split
      · exact (noted.trans moves_modSupply).trans (moves_raiseCause _)
      · exact noted.trans moves_modSupply
  · exact noted

theorem moves_telemetryFrame (f : Option TelemetryFrame) : SiteMoves i s (s.telemetryFrame i f) := by
  unfold State.telemetryFrame
  split
  · rename_i current phase _
    refine Runs.trans (moves_takeSample current) ?_
    unfold State.sampleTaken
    split
    · exact .refl
    · split
      · exact moves_takePhase _ _
      · refine Runs.trans ?_ (moves_takePhase _ _)
        exact SiteMoves.unseen (inside_freeIndex _) rfl
  · rw [State.modHead_eq]
    exact SiteMoves.site rfl rfl

/-! ### Links -/

theorem moves_modHead {f : HeadPort → HeadPort} (queue : (f (s.site i).head).launchQueue = (s.site i).head.launchQueue) :
    SiteMoves i s (s.modHead i f) := by
  rw [State.modHead_eq]
  exact SiteMoves.site rfl (Site.level_congr rfl queue)

theorem moves_linkDown : SiteMoves i s (s.linkDown i) := by
  rw [State.linkDown_eq]
  exact SiteMoves.site rfl rfl

theorem moves_gainFine : SiteMoves i s (s.gainFine i) := by
  rw [State.gainFine_eq]
  by_cases training : (s.site i).run.state = .training
  · refine SiteMoves.site rfl ?_
    rw [Site.level_of_other (x := s.site i) (by simp [training])]
    exact Site.level_of_other (by simp [training])
  · refine SiteMoves.site rfl (Site.level_congr ?_ rfl)
    simp only [training, if_false]

theorem moves_coarseFrame (good : Bool) : SiteMoves i s (s.coarseFrame i good) := by
  unfold State.coarseFrame
  split
  · split
    · exact moves_gainFine
    · exact moves_modHead rfl
  · exact moves_modHead rfl

theorem moves_loseFine (target : LockState) (run : Nat) : SiteMoves i s (s.loseFine i target run) := by
  have unlocked : SiteMoves i s (s.modSite i fun x => x.unlocked target run (lastSent s i .inverted)) := .site rfl rfl
  rw [State.loseFine_eq]
  cases state : (s.site i).run.state <;> simp only
  case idle =>
    refine unlocked.trans ?_
    rw [State.enterTraining_eq]
    refine SiteMoves.site rfl ?_
    rw [Site.level_of_other (x := State.site _ i) (by rw [State.site_modSite_same]; simp [Site.unlocked, state])]
    exact Site.level_of_other (by simp)
  case disabled | training => exact unlocked
  case released => exact unlocked.trans moves_linkDown
  all_goals exact unlocked.trans (moves_raiseCause _)

theorem moves_fromHead {take : State → State} (h : SiteMoves i s (take s)) : SiteMoves i s (s.fromHead i take) := by
  unfold State.fromHead
  split
  · split
    · exact .refl
    · exact moves_coarseFrame _
    · exact h
  · exact .refl

theorem moves_endFrame (check : CheckSent) : SiteMoves i s (s.endFrame i check) := by
  rw [State.endFrame_eq]
  exact SiteMoves.site rfl rfl

theorem moves_controlSent (kind : ControlKind) : SiteMoves i s (s.controlSent i kind) := by
  unfold State.controlSent
  split
  · exact (moves_endFrame _).trans moves_linkDown
  · exact moves_endFrame _

theorem moves_trainFail (h : (s.site i).run.state = .training) : SiteMoves i s (s.trainFail i) := by
  unfold State.trainFail
  rw [State.recordCause_eq, State.modRun_eq, State.enter_eq, State.modSite_modSite, State.modSite_modSite]
  refine SiteMoves.site rfl ?_
  rw [Site.level_of_other (x := s.site i) (by simp [h])]
  exact Site.level_of_other (by simp)

/-- A command of a site's Head Port, of its mark line or of its limits. -/
def OfSite (i : SiteIx) (c : Instr) : Prop :=
  c ∈ ([.lineMarkDue i, .linePulseEnd i, .launch i, .vectorBlockEnd i, .controlFrameSend i, .controlFrameEnd i,
      .patternRecognised i, .headSymbolLockLoss i, .unknownHeadFrame i, .deadlineExpiry i,
      .trainingLimitExpiry i] : List Instr)
    ∨ (∃ f : Option TrainFrame, c = .trainFrameReceived i f) ∨ (∃ f : Option ResultFrame, c = .result i f)
    ∨ (∃ f : Option TelemetryFrame, c = .telemetry i f)

theorem moves_live {f : State → State} (h : SiteMoves i s (f s)) (next : live s f = .next t) : SiteMoves i s t := by
  rcases live_eq_next s t f next with rfl | rfl
  · exact .refl
  · exact h

/-- What a site event does. -/
theorem exec_siteMoves (named : OfSite i c) (next : exec c s = .next t) : SiteMoves i s t := by
  simp only [OfSite, List.mem_cons, List.not_mem_nil, or_false] at named
  obtain (rfl | rfl | rfl | rfl | rfl | rfl | rfl | rfl | rfl | rfl | rfl) | ⟨f, rfl⟩ | ⟨f, rfl⟩ | ⟨f, rfl⟩ := named
  all_goals simp only [exec, execLineMarkDue, execLinePulseEnd, execLaunch, execVectorBlockEnd, execControlFrameSend,
    execControlFrameEnd, execPatternRecognised, execHeadSymbolLockLoss, execUnknownHeadFrame, execDeadlineExpiry,
    execTrainingLimitExpiry, execTrainFrameReceived, execResult, execTelemetry] at next
  all_goals refine moves_live ?_ next
  · split
    · exact .refl
    · rename_i m _ _
      refine (SiteMoves.reach m.due).trans ?_
      rw [State.modMarks_eq]
      exact SiteMoves.site rfl rfl
  · cases (s.site i).marks.pulseEnd with
    | none => exact .refl
    | some n =>
      refine (SiteMoves.reach n).trans ?_
      rw [Option.elim_some, State.modMarks_eq]
      exact SiteMoves.site rfl rfl
  · split
    · split
      · rw [State.launchEntry, State.modHead_eq]
        exact SiteMoves.seen (inside_modSite rfl)
      · exact .refl
    · exact .refl
  · split
    · cases s.frameEnds i with
      | none => exact .refl
      | some n => exact (SiteMoves.reach n).trans (moves_endFrame _)
    · exact .refl
  · split
    · split
      · exact moves_modHead rfl
      · exact .refl
    · exact .refl
  · split
    · cases s.frameEnds i with
      | none => exact .refl
      | some n => exact (SiteMoves.reach n).trans (moves_controlSent _)
    · exact .refl
  · split
    · exact moves_modHead rfl
    · exact .refl
  · split
    · split
      · exact .refl
      · exact moves_modHead rfl
      · exact moves_loseFine _ _
    · exact .refl
  · exact moves_fromHead (moves_modHead rfl)
  · cases s.firstDeadline i with
    | none => exact .refl
    | some n => exact (SiteMoves.reach n).trans (moves_raiseCause _)
  · split
    · rename_i training
      cases (s.site i).run.trainingLimit with
      | none => exact .refl
      | some n => exact (SiteMoves.reach n).trans (moves_trainFail training)
    · exact .refl
  · split
    · split
      · exact .refl
      · exact moves_coarseFrame _
      · split
        · exact moves_loseFine _ _
        · exact .refl
    · exact .refl
  · exact moves_fromHead (moves_resultFrame _)
  · exact moves_fromHead (moves_telemetryFrame _)

/-! ### What a site event reaches -/

/-- What moves reach: the site but for its configuration, reference counts, the tail of the Report Queue, and what the Flow Monitor
sets. -/
structure Lane (i : SiteIx) (s t : State) : Prop where
  others : ∀ j : SiteIx, j ≠ i → t.site j = s.site j
  config : (t.site i).config = (s.site i).config
  rest : t = { s with
    clock := t.clock, freeIndex := t.freeIndex, profiles := t.profiles, sites := t.sites, flow := t.flow,
    report := { s.report with queue := t.report.queue, hubPending := t.report.hubPending },
    trunk := { s.trunk with pendingFlow := t.trunk.pendingFlow } }
  queue : ∃ new : List QueuedRecord, t.report.queue = s.report.queue ++ new
  banks : ∀ (k : ProfileIx) (name : BankName),
    (t.profile k).active = (s.profile k).active ∧ (t.profile k).pendingSwap = (s.profile k).pendingSwap
      ∧ (t.profile k).bank name = { (s.profile k).bank name with refCount := ((t.profile k).bank name).refCount }

theorem Lane.trans (h : Lane i s t) (h' : Lane i t u) : Lane i s u := by
  refine ⟨fun j other => (h'.others j other).trans (h.others j other), h'.config.trans h.config, ?_, ?_, fun k name => ?_⟩
  · rw [h'.rest, h.rest]
  · obtain ⟨new, queue⟩ := h.queue
    obtain ⟨new', queue'⟩ := h'.queue
    exact ⟨new ++ new', by rw [queue', queue, List.append_assoc]⟩
  · obtain ⟨active, swap, bank⟩ := h.banks k name
    obtain ⟨active', swap', bank'⟩ := h'.banks k name
    exact ⟨active'.trans active, swap'.trans swap, by rw [bank', bank]⟩

theorem Inside.lane (h : Inside i s t) : Lane i s t := by
  refine ⟨h.others, h.config, ?_, ⟨[], ?_⟩, h.banks⟩
  · rw [h.rest]
  · rw [h.rest]; simp

theorem lane_readFlow : Lane i s s.readFlow := by
  refine ⟨fun j _ => s.site_readFlow j, by rw [State.site_readFlow], ?_, ⟨[], by simp⟩, fun k name => ?_⟩
  · rcases s.readFlow_eq with h | h | h <;> rw [h] <;> rfl
  · rw [State.profile_readFlow]
    exact ⟨rfl, rfl, rfl⟩

theorem lane_enqueue (r : Record) : Lane i s (s.enqueue r) := by
  have joined : Lane i s { s with report := { s.report with queue := s.report.queue ++ [⟨r, s.clock⟩] } } :=
    ⟨fun _ _ => rfl, rfl, rfl, ⟨_, rfl⟩, fun _ _ => ⟨rfl, rfl, rfl⟩⟩
  exact joined.trans lane_readFlow

theorem SiteMoves.lane (h : SiteMoves i s t) : Lane i s t := by
  induction h with
  | refl => exact (Inside.refl s).lane
  | tail _ last ih =>
    refine ih.trans ?_
    cases last with
    | unseen inside _ => exact inside.lane
    | seen inside => exact inside.lane.trans lane_readFlow
    | enqueued r _ _ => exact lane_enqueue r

/-- Settles O51: a site event is some moves of its site. -/
theorem siteEventsStayInTheirLane : Obligations.SiteEventsStayInTheirLane := by
  intro s t i c next named
  obtain ⟨others, config, rest, queue, banks⟩ := (exec_siteMoves named next).lane
  exact ⟨others, config, rest, queue, banks⟩

end Sys2Proof.Machine
end

section
/-! The Report Queue, the control credit and the flow state at a command: moves of the hub that the Flow Monitor does not see,
moves followed by its reading, and admissions (R57, R58, R59, R158, R172, R173, R174). -/
namespace Sys2Proof.Machine

open Sys2Proof.Safety

variable {s t u : State} {i : SiteIx} {c : Instr}

/-! ### Moves of the hub -/

/-- What leaves the Report Queue, the requests, the flow state and the pending flow frame as they are, and clears no hub flag. -/
structure Ticked (s t : State) : Prop where
  queue : t.report.queue = s.report.queue
  flow : t.flow = s.flow
  pendingFlow : t.trunk.pendingFlow = s.trunk.pendingFlow
  flag : s.report.hubPending = true → t.report.hubPending = true
  intake : t.agent.intake = s.agent.intake
  outstanding : t.agent.outstanding = s.agent.outstanding

theorem Ticked.refl (s : State) : Ticked s s := ⟨rfl, rfl, rfl, id, rfl, rfl⟩

theorem Ticked.trans (h : Ticked s t) (h' : Ticked t u) : Ticked s u :=
  ⟨h'.queue.trans h.queue, h'.flow.trans h.flow, h'.pendingFlow.trans h.pendingFlow, h'.flag ∘ h.flag,
    h'.intake.trans h.intake, h'.outstanding.trans h.outstanding⟩

theorem Inside.ticked (h : Inside i s t) : Ticked s t := by
  rw [h.rest]
  exact ⟨rfl, rfl, rfl, id, rfl, rfl⟩

theorem Ticked.foldl {α : Type} (f : State → α → State) (xs : List α) (h : ∀ (u : State) (a : α), Ticked u (f u a)) :
    Ticked s (xs.foldl f s) := by
  induction xs generalizing s with
  | nil => exact .refl s
  | cons a xs ih => exact (h s a).trans ih

/-- The moves of the hub. -/
inductive HubMove : State → State → Prop
  | unseen {s t : State} : Ticked s t → (∀ j : SiteIx, (t.site j).level = (s.site j).level) → HubMove s t
  | seen {s t : State} : Ticked s t → HubMove s t.readFlow
  | enqueued {s : State} (r : Record) : r.isResponse = false → s.report.queue.length < 252 → HubMove s (s.enqueue r)

/-- Some moves, one after another. -/
abbrev HubMoves : State → State → Prop := Runs HubMove

theorem HubMoves.unseen (h : Ticked s t) (level : ∀ j : SiteIx, (t.site j).level = (s.site j).level) : HubMoves s t :=
  .single (.unseen h level)

theorem HubMoves.site {f : Site → Site} (level : (f (s.site i)).level = (s.site i).level) :
    HubMoves s (s.modSite i f) := by
  refine .unseen ⟨rfl, rfl, rfl, id, rfl, rfl⟩ fun j => ?_
  rw [State.site_modSite]
  split
  · rename_i same; rw [same]; exact level
  · rfl

theorem HubMoves.foldl {α : Type} (f : State → α → State) (xs : List α) (h : ∀ (u : State) (a : α), HubMoves u (f u a)) :
    HubMoves s (xs.foldl f s) := by
  induction xs generalizing s with
  | nil => exact .refl
  | cons a xs ih => exact (h s a).trans ih

theorem HubMoves.modEach {xs : List SiteIx} {f : SiteIx → Site → Site} (level : ∀ (j : SiteIx) (x : Site), (f j x).level = x.level) :
    HubMoves s (s.modEach xs f) := HubMoves.foldl _ _ fun _ j => .site (level j _)

/-- A move of one site event is a move of the hub. -/
theorem SiteMoves.hubMoves (h : SiteMoves i s t) : HubMoves s t := by
  induction h with
  | refl => exact .refl
  | tail _ last ih =>
    refine ih.tail ?_
    cases last with
    | unseen inside level =>
      refine .unseen inside.ticked fun j => ?_
      by_cases same : j = i
      · rw [same]; exact level
      · rw [inside.others j same]
    | seen inside => exact .seen inside.ticked
    | enqueued r kind room => exact .enqueued r kind room

/-! ### What moves keep -/

/-- The control credit with `n` requests taken and not yet answered (R172, R173). -/
def Credit (n : Nat) (s : State) : Prop :=
  s.agent.outstanding = s.agent.intake.length + n + responsesWaiting s ∧ s.agent.outstanding ≤ 4

/-- At most 252 records that are no responses (R158). -/
def Bounded (s : State) : Prop := s.report.queue.length ≤ 252 + responsesWaiting s

/-- The flow state stands and with it what it has signalled, or it has been signalled (R57, R59). -/
def Signalled (s t : State) : Prop :=
  (t.flow = s.flow ∧ t.trunk.pendingFlow = s.trunk.pendingFlow
    ∧ (s.report.hubPending = true → t.report.hubPending = true))
  ∨ (t.trunk.pendingFlow = some t.flow.frame ∧ t.report.hubPending = true)

theorem Signalled.trans (h : Signalled s t) (h' : Signalled t u) : Signalled s u := by
  rcases h' with ⟨flow, pending, flag⟩ | told
  · rcases h with ⟨flow', pending', flag'⟩ | ⟨pending', flag'⟩
    · exact .inl ⟨flow.trans flow', pending.trans pending', flag ∘ flag'⟩
    · exact .inr ⟨by rw [pending, flow, pending'], flag flag'⟩
  · exact .inr told

theorem Ticked.signalled (h : Ticked s t) : Signalled s t := .inl ⟨h.flow, h.pendingFlow, h.flag⟩

theorem signalled_readFlow (s : State) : Signalled s s.readFlow := by
  rcases s.readFlow_eq with same | changed | changed
  · rw [same]; exact (Ticked.refl s).signalled
  · rw [changed]; exact .inr ⟨rfl, rfl⟩
  · rw [changed]; exact .inr ⟨rfl, rfl⟩

theorem signalled_enqueue (s : State) (r : Record) : Signalled s (s.enqueue r) :=
  Signalled.trans (t := { s with report := { s.report with queue := s.report.queue ++ [⟨r, s.clock⟩] } })
    (.inl ⟨rfl, rfl, id⟩) (signalled_readFlow _)

theorem Ticked.credit {n : Nat} (h : Ticked s t) : Credit n t ↔ Credit n s := by
  rw [Credit, Credit, responsesWaiting, responsesWaiting, h.queue, h.intake, h.outstanding]

theorem Ticked.bounded (h : Ticked s t) : Bounded t ↔ Bounded s := by
  rw [Bounded, Bounded, responsesWaiting, responsesWaiting, h.queue]

theorem credit_readFlow {n : Nat} : Credit n s.readFlow ↔ Credit n s := by
  rw [Credit, Credit, responsesWaiting, responsesWaiting, State.queue_readFlow, State.agent_readFlow]

theorem bounded_readFlow : Bounded s.readFlow ↔ Bounded s := by
  rw [Bounded, Bounded, responsesWaiting, responsesWaiting, State.queue_readFlow]

@[simp] theorem State.agent_enqueue (s : State) (r : Record) : (s.enqueue r).agent = s.agent := by
  rw [State.enqueue_eq, State.agent_readFlow]

theorem responsesWaiting_enqueue (r : Record) :
    responsesWaiting (s.enqueue r) = responsesWaiting s + if r.isResponse = true then 1 else 0 := by
  rw [responsesWaiting, State.queue_enqueue, List.filter_append, List.length_append, responsesWaiting]
  congr 1
  by_cases kind : r.isResponse = true
  · simp [kind]
  · simp [kind]

theorem State.someQueueAtLeast_eq (s : State) (n : Nat) :
    s.someQueueAtLeast n = allSites.any fun j => (s.site j).level.any fun l => decide (n ≤ l) := by
  unfold State.someQueueAtLeast Site.level
  congr 1
  funext j
  by_cases active : (s.site j).run.state = .active <;> simp [active]

theorem flowAgrees_congr (flow : t.flow = s.flow) (queue : t.report.queue = s.report.queue)
    (level : ∀ j : SiteIx, (t.site j).level = (s.site j).level) : FlowAgrees t ↔ FlowAgrees s := by
  simp only [FlowAgrees, State.holdCondition, State.releaseCondition, State.someQueueAtLeast_eq, level, flow, queue]

/-- What some moves keep of the queue, the credit and the flow state. -/
structure Keeps (s t : State) : Prop where
  credit : ∀ n : Nat, Credit n s → Credit n t
  bounded : Bounded s → Bounded t
  agrees : FlowAgrees s → FlowAgrees t
  signals : Signalled s t

theorem HubMove.keeps (h : HubMove s t) : Keeps s t := by
  cases h with
  | unseen quiet level =>
    exact ⟨fun n => quiet.credit.mpr, quiet.bounded.mpr, (flowAgrees_congr quiet.flow quiet.queue level).mpr,
      quiet.signalled⟩
  | seen quiet =>
    exact ⟨fun n h => credit_readFlow.mpr (quiet.credit.mpr h), fun h => bounded_readFlow.mpr (quiet.bounded.mpr h),
      fun _ => State.readFlow_agrees _, quiet.signalled.trans (signalled_readFlow _)⟩
  | enqueued r kind room =>
    have none : responsesWaiting (s.enqueue r) = responsesWaiting s := by simp [responsesWaiting_enqueue, kind]
    refine ⟨fun n h => ?_, fun _ => ?_, fun _ => State.readFlow_agrees _, signalled_enqueue s r⟩
    · rw [Credit, none, State.agent_enqueue]; exact h
    · rw [Bounded, none, State.queue_enqueue, List.length_append, List.length_singleton]; omega

theorem HubMoves.keeps (h : HubMoves s t) : Keeps s t := by
  induction h with
  | refl => exact ⟨fun _ => id, id, id, (Ticked.refl s).signalled⟩
  | tail _ last ih =>
    exact ⟨fun n h => last.keeps.credit n (ih.credit n h), fun h => last.keeps.bounded (ih.bounded h),
      fun h => last.keeps.agrees (ih.agrees h), ih.signals.trans last.keeps.signals⟩

/-- What every command keeps of them, a reset apart: the credit with no request left unanswered. -/
structure Upkeep (s t : State) : Prop where
  credit : Credit 0 s → Credit 0 t
  bounded : Bounded s → Bounded t
  agrees : FlowAgrees s → FlowAgrees t
  signals : t.flow = s.flow ∨ (t.trunk.pendingFlow = some t.flow.frame ∧ t.report.hubPending = true)

theorem Keeps.upkeep (h : Keeps s t) : Upkeep s t :=
  ⟨h.credit 0, h.bounded, h.agrees, h.signals.imp_left fun same => same.1⟩

theorem HubMoves.upkeep (h : HubMoves s t) : Upkeep s t := h.keeps.upkeep

theorem Upkeep.refl (s : State) : Upkeep s s := ⟨id, id, id, .inl rfl⟩

/-- What changes neither queue, requests, flow state nor sites keeps everything, the pending flow frame apart. -/
theorem Upkeep.of_same (queue : t.report.queue = s.report.queue) (flow : t.flow = s.flow) (agent : t.agent = s.agent)
    (sites : t.sites = s.sites) : Upkeep s t := by
  have site (j : SiteIx) : t.site j = s.site j := by rw [State.site, sites]; rfl
  refine ⟨?_, ?_, (flowAgrees_congr flow queue fun j => by rw [site]).mpr, .inl flow⟩
  · rw [Credit, Credit, responsesWaiting, responsesWaiting, queue, agent]; exact id
  · rw [Bounded, Bounded, responsesWaiting, responsesWaiting, queue]; exact id

/-! ### Requests -/

@[simp] theorem responsesWaiting_respond (t : State) (r : CtrlRequest) (code : RespCode) (data : Option (List Item)) :
    responsesWaiting (t.respond r code data) = responsesWaiting t + 1 := by
  unfold State.respond
  rw [responsesWaiting_enqueue]
  rfl

theorem queue_respond (t : State) (r : CtrlRequest) (code : RespCode) (data : Option (List Item)) :
    (t.respond r code data).report.queue.length = t.report.queue.length + 1 := by
  rw [State.respond, State.queue_enqueue, List.length_append, List.length_singleton]

/-- A request answered: the one that was taken and not yet answered is now a RESPONSE record in the queue (R174, R176). -/
theorem keeps_respond {r : CtrlRequest} {code : RespCode} {data : Option (List Item)} (h : HubMoves s t)
    (credit : Credit 1 s) : Credit 0 (t.respond r code data) := by
  obtain ⟨sum, few⟩ := h.keeps.credit 1 credit
  have agent : (t.respond r code data).agent = { t.agent with overflowPending := false } := by
    rw [State.respond, State.agent_enqueue]
  rw [Credit, responsesWaiting_respond, agent]
  exact ⟨by simp only; omega, few⟩

theorem bounded_respond {r : CtrlRequest} {code : RespCode} {data : Option (List Item)} (h : Bounded t) :
    Bounded (t.respond r code data) := by
  rw [Bounded, responsesWaiting_respond, queue_respond]
  unfold Bounded at h
  omega

theorem signalled_respond (r : CtrlRequest) (code : RespCode) (data : Option (List Item)) :
    Signalled t (t.respond r code data) :=
  Signalled.trans (t := { t with agent := { t.agent with overflowPending := false } })
    (.inl ⟨rfl, rfl, id⟩) (signalled_enqueue _ _)

/-- A request taken from the intake, its effect made and answered. -/
theorem upkeep_answered {r q : CtrlRequest} {rest : List CtrlRequest} {code : RespCode} {data : Option (List Item)}
    (waiting : s.agent.intake = r :: rest) (h : HubMoves (intakeLeft s rest) t) : Upkeep s (t.respond q code data) := by
  have left : Credit 0 s → Credit 1 (intakeLeft s rest) := by
    rintro ⟨sum, few⟩
    rw [waiting, List.length_cons] at sum
    refine ⟨?_, few⟩
    show s.agent.outstanding = rest.length + 1 + responsesWaiting s
    omega
  refine ⟨fun credit => keeps_respond h (left credit), fun b => bounded_respond (h.keeps.bounded b),
    fun _ => State.readFlow_agrees _, ?_⟩
  have signals : Signalled s (t.respond q code data) :=
    Signalled.trans (t := intakeLeft s rest) (.inl ⟨rfl, rfl, id⟩) (h.keeps.signals.trans (signalled_respond _ _ _))
  exact signals.imp_left fun same => same.1

/-- A request whose effect is some moves keeps everything. -/
theorem upkeep_request {kind : Byte} {effect : CtrlRequest → State → Answer}
    (h : ∀ (r : CtrlRequest) (u : State), HubMoves u (effect r u).after)
    (next : live s (fun s => s.takeRequest kind effect) = .next t) : Upkeep s t := by
  rcases live_eq_next s t _ next with rfl | rfl
  · exact .refl _
  rcases s.takeRequest_cases kind effect with same | ⟨r, rest, waiting, -, same⟩ <;> rw [same]
  · exact .refl _
  · exact upkeep_answered waiting (h r _)

theorem hubMoves_setHub (r : CtrlRequest) : HubMoves s (setHubAnswer r s).after := by
  unfold setHubAnswer
  split
  · exact .unseen ⟨rfl, rfl, rfl, id, rfl, rfl⟩ fun _ => rfl
  · exact .refl

theorem hubMoves_swapProfile (r : CtrlRequest) : HubMoves s (swapProfileAnswer r s).after := by
  unfold swapProfileAnswer
  split
  · exact .refl
  · split
    · exact .refl
    · split
      · exact .refl
      · split
        · exact .refl
        · exact .unseen ⟨rfl, rfl, rfl, id, rfl, rfl⟩ fun _ => rfl

theorem hubMoves_setPair (r : CtrlRequest) : HubMoves s (setPairAnswer r s).after := by
  unfold setPairAnswer
  split
  · exact .refl
  · split
    · exact .refl
    · split
      · exact .refl
      · exact .unseen ⟨rfl, rfl, rfl, id, rfl, rfl⟩ fun _ => rfl

theorem level_of_states {x y : Site} (h : x.run.state ≠ .active) (h' : y.run.state ≠ .active) : y.level = x.level :=
  (Site.level_of_other h').trans (Site.level_of_other h).symm

theorem hubMoves_joinSite (r : CtrlRequest) : HubMoves s (joinSiteAnswer r s).after := by
  unfold joinSiteAnswer
  split
  · exact .refl
  · rename_i i _
    split
    · exact .refl
    · rename_i idle
      split
      · exact .refl
      · rename_i k _
        split
        · exact .refl
        · split
          · exact .refl
          · show HubMoves s (s.join i (s.profile k).activeBank.tables.geometry)
            rw [State.join_eq]
            exact HubMoves.site (level_of_states (by simp [Classical.not_not.mp idle]) (by simp))

theorem hubMoves_retireSite (r : CtrlRequest) : HubMoves s (retireSiteAnswer r s).after := by
  unfold retireSiteAnswer
  split
  · exact .refl
  · split
    · exact (moves_raiseCause _).hubMoves
    · exact (moves_raiseCause _).hubMoves
    · exact (moves_raiseCause _).hubMoves
    · exact .refl

theorem hubMoves_clearSite (r : CtrlRequest) : HubMoves s (clearSiteAnswer r s).after := by
  unfold clearSiteAnswer
  split
  · exact .refl
  · rename_i i _
    split
    · rename_i retired
      show HubMoves s (s.clearRetired i)
      rw [State.clearRetired_eq]
      refine HubMoves.site (level_of_states (by simp [retired]) ?_)
      simp only
      split <;> simp
    · exact .refl

theorem hubMoves_releaseSite (r : CtrlRequest) : HubMoves s (releaseSiteAnswer r s).after := by
  unfold releaseSiteAnswer
  split
  · exact .refl
  · rename_i i _
    split
    · rename_i retired
      show HubMoves s (s.release i)
      rw [State.release_eq]
      exact HubMoves.site (level_of_states (by simp [retired]) (by simp))
    · exact .refl

theorem hubMoves_disable (other : (s.site i).run.state ≠ .active) : HubMoves s (s.disable i) := by
  rw [State.disable_eq]
  exact HubMoves.site (level_of_states other (by simp))

theorem hubMoves_bringUp (m : SiteMode) (other : (s.site i).run.state ≠ .active) : HubMoves s (s.bringUp i m) := by
  rw [State.bringUp_eq]
  exact HubMoves.site (level_of_states other (by simp))

theorem hubMoves_modConfig {f : SiteConfig → SiteConfig} : HubMoves s (s.modConfig i f) := by
  rw [State.modConfig_eq]
  exact HubMoves.site rfl

theorem hubMoves_setMode (m : SiteMode) : HubMoves s (s.setMode i m) := by
  cases m with
  | disabled =>
    cases h : (s.site i).run.state <;> simp only [State.setMode, h]
    case training | idle | retired | released => exact hubMoves_disable (by simp [h])
    all_goals exact .refl
  | profile k =>
    cases h : (s.site i).run.state <;> simp only [State.setMode, h]
    case disabled | released => exact hubMoves_bringUp _ (by simp [h])
    case training | idle | retired => exact hubMoves_modConfig
    all_goals exact .refl

theorem hubMoves_setRetireOption (b : Bool) : HubMoves s (s.setRetireOption i b) := by
  unfold State.setRetireOption
  simp only
  split
  · exact hubMoves_modConfig.trans (moves_raiseCause _).hubMoves
  · exact hubMoves_modConfig

theorem hubMoves_applyOptions (o : SiteOptions) : HubMoves s (s.applyOptions i o) := by
  rw [State.applyOptions_eq]
  refine Runs.trans (b := o.retire.elim s (s.setRetireOption i)) ?_ (HubMoves.site rfl)
  cases o.retire with
  | none => exact .refl
  | some b => exact hubMoves_setRetireOption b

theorem hubMoves_setSite (r : CtrlRequest) : HubMoves s (setSiteAnswer r s).after := by
  unfold setSiteAnswer
  split
  · exact .refl
  · rename_i mode _ _
    split
    · exact .refl
    · split
      · exact .refl
      · refine Runs.trans ?_ (hubMoves_applyOptions _)
        cases mode with
        | none => exact .refl
        | some m => exact hubMoves_setMode m

/-! ### Bursts and marks -/

theorem ticked_offerBurst (d : Descriptor) : Ticked s (s.offerBurst d i) := by
  unfold State.offerBurst
  split
  · split
    · unfold State.copyBurst
      cases s.bindingOf i with
      | none => exact .refl s
      | some r => exact ⟨rfl, rfl, rfl, id, rfl, rfl⟩
    · exact (inside_raiseCauseQuiet _).ticked
  · exact .refl s

theorem hubMoves_replicate (d : Descriptor) : HubMoves s (s.replicate d) := by
  unfold State.replicate
  simp only
  split
  · exact .single (.seen (Ticked.trans (t := { s with replicator := { s.replicator with
      bursts := sat32 s.replicator.bursts 1 } }) ⟨rfl, rfl, rfl, id, rfl, rfl⟩
      (Ticked.foldl _ _ fun _ _ => ticked_offerBurst d)))
  · exact .unseen ⟨rfl, rfl, rfl, id, rfl, rfl⟩ fun _ => rfl

theorem hubMoves_tagCheck (tag : Half) : HubMoves s (s.tagCheck tag) := by
  unfold State.tagCheck
  refine Runs.trans (b := if s.tagGap tag then s.sequenceGap else s) ?_
    (HubMoves.unseen ⟨rfl, rfl, rfl, id, rfl, rfl⟩ fun _ => rfl)
  split
  · rw [State.sequenceGap_eq]
    refine Runs.trans ?_ (HubMoves.modEach fun _ x => ?_)
    · exact HubMoves.unseen ⟨rfl, rfl, rfl, id, rfl, rfl⟩ fun _ => rfl
    · unfold Site.gapSeen
      split <;> rfl
  · exact .refl

theorem upkeep_burst {f : BurstFrame} (next : execBurst f s = .next t) : Upkeep s t := by
  rcases live_eq_next s t _ next with rfl | rfl
  · exact .refl _
  refine HubMoves.upkeep ?_
  split
  · split
    · exact (hubMoves_tagCheck _).trans (hubMoves_replicate _)
    · exact .unseen ⟨rfl, rfl, rfl, id, rfl, rfl⟩ fun _ => rfl
  · exact .refl

theorem hubMoves_seriesPointAt (instant : Nat) (leftOut : List SiteIx) : HubMoves s (s.seriesPointAt instant leftOut) := by
  rw [State.seriesPointAt_eq]
  refine HubMoves.modEach fun _ x => ?_
  unfold Site.served
  split <;> rfl

theorem hubMoves_withMarks (m : MarkUnit) : HubMoves s { s with marks := m } :=
  .unseen ⟨rfl, rfl, rfl, id, rfl, rfl⟩ fun _ => rfl

theorem hubMoves_flagHub : HubMoves s s.flagHub := .unseen ⟨rfl, rfl, rfl, fun _ => rfl, rfl, rfl⟩ fun _ => rfl

theorem hubMoves_withReplicator (r : Replicator) : HubMoves s { s with replicator := r } :=
  .unseen ⟨rfl, rfl, rfl, id, rfl, rfl⟩ fun _ => rfl

theorem hubMoves_serveMark (leftOut : List SiteIx) : HubMoves s (s.serveMark leftOut) := by
  have point : HubMoves s (s.seriesPointAt s.clock leftOut) := hubMoves_seriesPointAt _ _
  unfold State.serveMark
  split
  · exact point
  · simp only
    refine Runs.trans ?_ (hubMoves_withMarks _)
    split
    · exact point
    · exact .refl
  · split
    · exact point
    · split
      · unfold State.fallBack
        simp only
        split
        · exact point
        · exact point.trans (hubMoves_flagHub.trans (hubMoves_withMarks _))
      · exact point.trans (hubMoves_withMarks _)

theorem hubMoves_frameMark (moved : List (SiteIx × Nat)) : HubMoves s (s.frameMark moved) := by
  unfold State.frameMark
  simp only
  refine Runs.trans ?_ (HubMoves.foldl _ _ fun u p => ?_)
  · exact (hubMoves_withMarks _).trans (hubMoves_serveMark _)
  · rw [State.scheduleMark_eq]
    exact HubMoves.site rfl

theorem ticked_performSwaps : Ticked s s.performSwaps :=
  Ticked.foldl _ _ fun _ _ => ⟨rfl, rfl, rfl, id, rfl, rfl⟩

theorem hubMoves_markPoint : HubMoves s s.markPoint := by
  unfold State.markPoint
  simp only
  refine Runs.trans ?_ (hubMoves_frameMark _)
  refine Runs.trans (b := (allSites.foldl State.promote s.performSwaps).readFlow) ?_ ?_
  · refine .single (.seen (ticked_performSwaps.trans (Ticked.foldl _ _ fun u j => ?_)))
    rw [State.promote_eq]
    exact ⟨rfl, rfl, rfl, id, rfl, rfl⟩
  · exact hubMoves_withReplicator _

/-! ### Reports and the trunk link -/

/-- A summary record: its flag clears, and the record is admitted below 252 records (R164, R165). -/
theorem upkeep_summaryRecord (next : execSummaryRecord s = .next t) : Upkeep s t := by
  rcases live_eq_next s t _ next with rfl | rfl
  · exact .refl _
  cases owed : s.owed with
  | none => exact .refl _
  | some f =>
    have room : s.report.queue.length < 252 := by
      refine Classical.byContradiction fun full => ?_
      simp [State.owed, full] at owed
    have cleared : (s.clearFlag f).report.queue = s.report.queue ∧ (s.clearFlag f).flow = s.flow
        ∧ (s.clearFlag f).agent = s.agent ∧ ∀ j : SiteIx, ((s.clearFlag f).site j).level = (s.site j).level := by
      cases f with
      | hub => exact ⟨rfl, rfl, rfl, fun _ => rfl⟩
      | site i =>
        refine ⟨rfl, rfl, rfl, fun j => ?_⟩
        rw [State.clearFlag, State.modReports_eq, State.site_modSite]
        split
        · rename_i same; rw [same]; rfl
        · rfl
      | region i g =>
        refine ⟨rfl, rfl, rfl, fun j => ?_⟩
        rw [State.clearFlag, State.modRegion_eq, State.site_modSite]
        split
        · rename_i same; rw [same]; rfl
        · rfl
    obtain ⟨queue, flow, agent, level⟩ := cleared
    have kind : (s.summary f).isResponse = false := by cases f <;> rfl
    have admitted := (HubMove.enqueued (s := s.clearFlag f) (s.summary f) kind (by rw [queue]; exact room)).keeps
    refine ⟨fun credit => admitted.credit 0 ?_, fun b => admitted.bounded ?_, fun _ => State.readFlow_agrees _,
      admitted.signals.imp_left fun same => same.1.trans flow⟩
    · rw [Credit, responsesWaiting, queue, agent]; exact credit
    · rw [Bounded, responsesWaiting, queue]; exact b

/-- A report frame takes the oldest records, and its RESPONSE records end their requests (R167, R174). -/
theorem upkeep_reportFrameBuild (next : execReportFrameBuild s = .next t) : Upkeep s t := by
  rcases live_eq_next s t _ next with rfl | rfl
  · exact .refl _
  split
  · have taken : (s.nextFrame.filter Record.isResponse).length
        = ((s.report.queue.take 16).filter fun r => r.record.isResponse).length := by
      rw [State.nextFrame, List.filter_map, List.length_map]; rfl
    have responses : responsesWaiting s = (s.nextFrame.filter Record.isResponse).length
        + ((s.report.queue.drop 16).filter fun r => r.record.isResponse).length := by
      rw [taken, ← List.length_append, ← List.filter_append, List.take_append_drop]; rfl
    have few : (s.nextFrame.filter Record.isResponse).length ≤ (s.report.queue.take 16).length := by
      rw [taken]; exact List.length_filter_le _ _
    have parts : (s.report.queue.take 16).length + (s.report.queue.drop 16).length = s.report.queue.length := by
      rw [← List.length_append, List.take_append_drop]
    refine ⟨fun credit => credit_readFlow.mpr ?_, fun b => bounded_readFlow.mpr ?_, fun _ => State.readFlow_agrees _, ?_⟩
    · obtain ⟨sum, most⟩ := credit
      simp only [Credit, responsesWaiting] at sum responses ⊢
      omega
    · simp only [Bounded, responsesWaiting] at b responses ⊢
      omega
    · exact (signalled_readFlow _).imp_left fun same => same.1
  · exact .refl _

theorem upkeep_ctrl {r : CtrlRequest} (next : execCtrl r s = .next t) : Upkeep s t := by
  rcases live_eq_next s t _ next with rfl | rfl
  · exact .refl _
  split
  · split
    · rename_i few
      refine ⟨fun ⟨sum, _⟩ => ⟨?_, ?_⟩, id, id, .inl rfl⟩
      · simp only [List.length_append, List.length_singleton]
        rw [sum]
        show _ = _ + _ + responsesWaiting s
        omega
      · simp only; omega
    · exact ⟨id, id, id, .inl rfl⟩
  · exact .refl _

/-- The commands of the trunk link, the beat and the reports that touch neither queue, requests, flow state nor sites. -/
theorem upkeep_aside (hc : c ∈ ([.trunkTrainingStart, .trunkFrameCheckFail, .trunkUnknownKind, .selftestFrameDiscard,
      .monPulseEnd, .beat, .reportFrameSent, .interruptedReportResend, .flowFrameSend, .flowFrameEnd,
      .coalescingTimerExpiry] : List Instr) ∨ ∃ received, c = .trunkLinkUp received)
    (next : exec c s = .next t) : Upkeep s t := by
  have held (f : State → State) (h : Upkeep s (f s)) (next : live s f = .next t) : Upkeep s t := by
    rcases live_eq_next s t f next with rfl | rfl
    · exact .refl _
    · exact h
  simp only [List.mem_cons, List.not_mem_nil, or_false] at hc
  obtain (rfl | rfl | rfl | rfl | rfl | rfl | rfl | rfl | rfl | rfl | rfl) | ⟨received, rfl⟩ := hc
  all_goals simp only [exec, execTrunkTrainingStart, execTrunkFrameCheckFail, execTrunkUnknownKind,
    execSelftestFrameDiscard, execMonPulseEnd, execBeat, execReportFrameSent, execInterruptedReportResend,
    execFlowFrameSend, execFlowFrameEnd, execCoalescingTimerExpiry, execTrunkLinkUp] at next
  all_goals refine held _ ?_ next
  · split <;> exact .of_same rfl rfl rfl rfl
  · split <;> exact .of_same rfl rfl rfl rfl
  · split <;> exact .of_same rfl rfl rfl rfl
  · exact .of_same rfl rfl rfl rfl
  · cases s.marks.monPulse <;> exact .of_same rfl rfl rfl rfl
  · split <;> exact .of_same rfl rfl rfl rfl
  · split <;> exact .of_same rfl rfl rfl rfl
  · split
    · split <;> exact .of_same rfl rfl rfl rfl
    · exact .refl _
  · split
    · split <;> exact .of_same rfl rfl rfl rfl
    · exact .refl _
  · split <;> exact .of_same rfl rfl rfl rfl
  · cases s.coalescingDue <;> exact .of_same rfl rfl rfl rfl
  · split
    · split <;> exact .of_same rfl rfl rfl rfl
    · exact .refl _

/-- What every ordinary command keeps of queue, credit and flow state. -/
theorem exec_upkeep (ordinary : isOrdinary c = true) (next : exec c s = .next t) : Upkeep s t := by
  have site {i : SiteIx} (named : OfSite i c) : Upkeep s t := (exec_siteMoves named next).hubMoves.upkeep
  cases c
  case powerOnReset | resetPin | resetPinRelease | selftestEnd | hubReset | trunkSymbolLockLoss | mainframeRestart
      | beatExpiry | resume | writeProfile => cases ordinary
  case trunkTrainingStart | trunkFrameCheckFail | trunkUnknownKind | selftestFrameDiscard | monPulseEnd | beat
      | reportFrameSent | interruptedReportResend | flowFrameSend | flowFrameEnd | coalescingTimerExpiry =>
    exact upkeep_aside (.inl (by simp)) next
  case trunkLinkUp received => exact upkeep_aside (.inr ⟨received, rfl⟩) next
  case ctrl r => exact upkeep_ctrl next
  case reportFrameBuild => exact upkeep_reportFrameBuild next
  case summaryRecord => exact upkeep_summaryRecord next
  case burst f => exact upkeep_burst next
  case mark =>
    rcases live_eq_next s t (fun s => if s.hub = .selftest then s else s.markPoint) next with rfl | rfl
    · exact .refl _
    · split
      · exact .refl _
      · exact hubMoves_markPoint.upkeep
  case seriesPoint =>
    rcases live_eq_next s t (fun s => s.seriesDue.elim s fun n =>
      { (s.reach n).seriesPointAt n [] with marks := { ((s.reach n).seriesPointAt n []).marks with
          series := s.marks.series.bind Series.advance } }) next with rfl | rfl
    · exact .refl _
    · cases s.seriesDue with
      | none => exact .refl _
      | some n =>
        refine HubMoves.upkeep (Runs.trans ?_ (hubMoves_withMarks _))
        refine Runs.trans (b := s.reach n) ?_ (hubMoves_seriesPointAt _ _)
        exact HubMoves.unseen ⟨rfl, rfl, rfl, id, rfl, rfl⟩ fun _ => rfl
  case lineMarkDue i | linePulseEnd i | launch i | vectorBlockEnd i | controlFrameSend i | controlFrameEnd i
      | patternRecognised i | headSymbolLockLoss i | unknownHeadFrame i | deadlineExpiry i | trainingLimitExpiry i =>
    exact site (i := i) (.inl (by simp))
  case trainFrameReceived i f => exact site (.inr (.inl ⟨f, rfl⟩))
  case result i f => exact site (.inr (.inr (.inl ⟨f, rfl⟩)))
  case telemetry i f => exact site (.inr (.inr (.inr ⟨f, rfl⟩)))
  case getHub => exact upkeep_request (fun r u => by rw [after_getHub]; exact .refl) next
  case setHub => exact upkeep_request (fun r u => hubMoves_setHub r) next
  case readProfile => exact upkeep_request (fun r u => by rw [after_readProfile]; exact .refl) next
  case swapProfile => exact upkeep_request (fun r u => hubMoves_swapProfile r) next
  case setSite => exact upkeep_request (fun r u => hubMoves_setSite r) next
  case setPair => exact upkeep_request (fun r u => hubMoves_setPair r) next
  case joinSite => exact upkeep_request (fun r u => hubMoves_joinSite r) next
  case retireSite => exact upkeep_request (fun r u => hubMoves_retireSite r) next
  case clearSite => exact upkeep_request (fun r u => hubMoves_clearSite r) next
  case releaseSite => exact upkeep_request (fun r u => hubMoves_releaseSite r) next
  case readSite => exact upkeep_request (fun r u => by rw [after_readSite]; exact .refl) next
  case readRegion => exact upkeep_request (fun r u => by rw [after_readRegion]; exact .refl) next
  case readCells => exact upkeep_request (fun r u => by rw [after_readCells]; exact .refl) next
  case unknownRequestKind =>
    rcases live_eq_next s t (fun s => match s.oldestRequest (fun k => decide (k ∉ requestKinds)) with
      | some (r, t) => t.respond r .badRequest none
      | none => s) next with rfl | rfl
    · exact .refl _
    unfold State.oldestRequest
    cases waiting : s.agent.intake with
    | nil => exact .refl _
    | cons r rest =>
      simp only
      by_cases unknown : decide (r.kind ∉ requestKinds) = true
      · simp only [if_pos unknown]
        exact upkeep_answered waiting .refl
      · simp only [if_neg unknown]
        exact .refl _

end Sys2Proof.Machine
end

section
/-! The hub in SELFTEST, where nothing reaches a block, and the laws of credit, queue, SELFTEST and flow at every step (R171, R172,
R173, R191). -/
namespace Sys2Proof.Machine

open Sys2Proof.Safety

variable {s t u : State} {i : SiteIx} {c : Instr}

/-! ### Ordinary commands in SELFTEST -/

/-- The blocks stand at their reset values (R83, R171, R172, R191). -/
structure Asleep (s : State) : Prop where
  hub : s.hub = .selftest
  sites : s.sites = Vector.replicate 8 Site.reset
  intake : s.agent.intake = []
  outstanding : s.agent.outstanding = 0
  queue : s.report.queue = []
  flag : s.report.hubPending = false
  flow : s.flow = .flowing
  beatLimit : s.beat.limit = 0
  banks : ∀ k : ProfileIx, (s.profile k).pendingSwap = false ∧ (s.profile k).bankA.valid = false
    ∧ (s.profile k).bankB.valid = false ∧ (s.profile k).bankA.refCount = 0 ∧ (s.profile k).bankB.refCount = 0

theorem asleep_of_quiet (quiet : QuietInSelfTest s) (hub : s.hub = .selftest) : Asleep s := by
  obtain ⟨sites, intake, outstanding, queue, flag, flow, beatLimit, banks⟩ := quiet.2.2 hub
  exact ⟨hub, sites, intake, outstanding, queue, flag, flow, beatLimit, banks⟩

theorem Asleep.quiet (h : Asleep s) : QuietInSelfTest s :=
  ⟨fun _ => h.hub, fun _ => h.hub, fun _ => ⟨h.sites, h.intake, h.outstanding, h.queue, h.flag, h.flow, h.beatLimit, h.banks⟩⟩

theorem Asleep.site (h : Asleep s) (i : SiteIx) : s.site i = Site.reset := by
  rw [State.site, h.sites]
  exact Vector.getElem_replicate _

/-- What changes no block that a self-test keeps at reset. -/
theorem Asleep.congr (h : Asleep s) (hub : t.hub = s.hub) (sites : t.sites = s.sites) (agent : t.agent = s.agent)
    (report : t.report = s.report) (flow : t.flow = s.flow) (beat : t.beat = s.beat) (profiles : t.profiles = s.profiles) :
    Asleep t := by
  have profile (k : ProfileIx) : t.profile k = s.profile k := by rw [State.profile, profiles]; rfl
  refine ⟨hub.trans h.hub, sites.trans h.sites, by rw [agent, h.intake], by rw [agent, h.outstanding],
    by rw [report, h.queue], by rw [report, h.flag], flow.trans h.flow, by rw [beat, h.beatLimit], fun k => ?_⟩
  rw [profile]
  exact h.banks k

theorem Asleep.live {f : State → State} (h : Asleep s) (acts : Asleep (f s)) (next : live s f = .next t) : Asleep t := by
  rcases live_eq_next s t f next with rfl | rfl
  · exact h
  · exact acts

theorem Asleep.receives (h : Asleep s) : s.receives = false := by
  simp [State.receives, h.hub]

/-- No request waits in SELFTEST (R172). -/
theorem Asleep.request {kind : Byte} {effect : CtrlRequest → State → Answer} (h : Asleep s)
    (next : Machine.live s (fun s => s.takeRequest kind effect) = .next t) : Asleep t := by
  refine h.live ?_ next
  rcases s.takeRequest_cases kind effect with same | ⟨r, rest, waiting, -, -⟩
  · rw [same]; exact h
  · rw [h.intake] at waiting
    cases waiting

/-- No summary-pending flag is set in SELFTEST. -/
theorem Asleep.owed (h : Asleep s) : s.owed = none := by
  have clear (f : SummaryFlag) : s.flagSet f = false := by
    cases f with
    | hub => exact h.flag
    | site i => simp only [State.flagSet, h.site]; rfl
    | region i g =>
      simp only [State.flagSet, h.site]
      rw [region_of_siteReset]
  rw [State.owed, if_pos (by rw [h.queue]; decide)]
  exact List.find?_eq_none.mpr fun f _ => by simp [clear f]

theorem Asleep.seriesPointAt (h : Asleep s) (instant : Nat) (leftOut : List SiteIx) :
    Asleep (s.seriesPointAt instant leftOut) := by
  have sites : (s.seriesPointAt instant leftOut).sites = s.sites := by
    refine State.sites_ext _ _ fun i => ?_
    rw [State.seriesPointAt_eq, State.site_modEach_allSites, h.site]
    simp [Site.served, Site.reset, RunRecord.reset, SiteState.marked]
  have rest : s.seriesPointAt instant leftOut = s := by
    rw [State.seriesPointAt_eq, State.modEach_frame, ← State.seriesPointAt_eq, sites]
  rw [rest]
  exact h

/-- An event of a site finds it at reset: the link driven down, nothing queued, scheduled or timed. -/
theorem Asleep.site_event (h : Asleep s) (named : OfSite i c) (next : exec c s = .next t) : Asleep t := by
  simp only [OfSite, List.mem_cons, List.not_mem_nil, or_false] at named
  obtain (rfl | rfl | rfl | rfl | rfl | rfl | rfl | rfl | rfl | rfl | rfl) | ⟨f, rfl⟩ | ⟨f, rfl⟩ | ⟨f, rfl⟩ := named
  all_goals simp only [exec, execLineMarkDue, execLinePulseEnd, execLaunch, execVectorBlockEnd, execControlFrameSend,
    execControlFrameEnd, execPatternRecognised, execHeadSymbolLockLoss, execUnknownHeadFrame, execDeadlineExpiry,
    execTrainingLimitExpiry, execTrainFrameReceived, execResult, execTelemetry] at next
  all_goals refine h.live ?_ next
  all_goals simpa [h.site, Site.reset, HeadPort.reset, RunRecord.reset, SiteMarks.pulseEnd, State.firstDeadline,
    State.fromHead] using h

theorem Asleep.withMarks (h : Asleep s) (m : MarkUnit) : Asleep { s with marks := m } :=
  h.congr rfl rfl rfl rfl rfl rfl rfl

/-- The commands of the trunk link that touch the link alone, the clock and the MON pulse apart. -/
theorem link_only (hc : c ∈ ([.trunkTrainingStart, .trunkFrameCheckFail, .trunkUnknownKind, .selftestFrameDiscard,
      .monPulseEnd, .reportFrameSent, .interruptedReportResend, .flowFrameSend, .flowFrameEnd,
      .coalescingTimerExpiry] : List Instr) ∨ ∃ received, c = .trunkLinkUp received)
    (next : exec c s = .next t) : t = { s with clock := t.clock, trunk := t.trunk, marks := t.marks } := by
  have held (f : State → State) (h : f s = { s with clock := (f s).clock, trunk := (f s).trunk, marks := (f s).marks })
      (next : live s f = .next t) : t = { s with clock := t.clock, trunk := t.trunk, marks := t.marks } := by
    rcases live_eq_next s t f next with rfl | rfl
    · rfl
    · exact h
  simp only [List.mem_cons, List.not_mem_nil, or_false] at hc
  obtain (rfl | rfl | rfl | rfl | rfl | rfl | rfl | rfl | rfl | rfl) | ⟨received, rfl⟩ := hc
  all_goals simp only [exec, execTrunkTrainingStart, execTrunkFrameCheckFail, execTrunkUnknownKind,
    execSelftestFrameDiscard, execMonPulseEnd, execReportFrameSent, execInterruptedReportResend,
    execFlowFrameSend, execFlowFrameEnd, execCoalescingTimerExpiry, execTrunkLinkUp] at next
  all_goals refine held _ ?_ next
  · split <;> rfl
  · split <;> rfl
  · split <;> rfl
  · rfl
  · cases s.marks.monPulse <;> rfl
  · split <;> rfl
  · split
    · split <;> rfl
    · rfl
  · split
    · split <;> rfl
    · rfl
  · split <;> rfl
  · cases s.coalescingDue <;> rfl
  · split
    · split <;> rfl
    · rfl

theorem Asleep.link_event (h : Asleep s) (hc : c ∈ ([.trunkTrainingStart, .trunkFrameCheckFail, .trunkUnknownKind,
      .selftestFrameDiscard, .monPulseEnd, .reportFrameSent, .interruptedReportResend, .flowFrameSend, .flowFrameEnd,
      .coalescingTimerExpiry] : List Instr) ∨ ∃ received, c = .trunkLinkUp received)
    (next : Machine.exec c s = .next t) : Asleep t := by
  rw [link_only hc next]
  exact h.congr rfl rfl rfl rfl rfl rfl rfl

/-- In SELFTEST no ordinary command touches a block that the self-test keeps at reset (R83, R171, R172, R191). -/
theorem Asleep.exec (h : Asleep s) (ordinary : isOrdinary c = true) (next : Machine.exec c s = .next t) : Asleep t := by
  cases c
  case powerOnReset | resetPin | resetPinRelease | selftestEnd | hubReset | trunkSymbolLockLoss | mainframeRestart
      | beatExpiry | resume | writeProfile => cases ordinary
  case trunkTrainingStart | trunkFrameCheckFail | trunkUnknownKind | selftestFrameDiscard | monPulseEnd | reportFrameSent
      | interruptedReportResend | flowFrameSend | flowFrameEnd | coalescingTimerExpiry =>
    exact h.link_event (.inl (by simp)) next
  case trunkLinkUp received => exact h.link_event (.inr ⟨received, rfl⟩) next
  case beat => exact h.live (by simpa [h.receives] using h) next
  case ctrl r => exact h.live (by simpa [h.receives] using h) next
  case burst f => exact h.live (by simpa [h.receives] using h) next
  case mark => exact h.live (f := fun s => if s.hub = .selftest then s else s.markPoint) (by simpa [h.hub] using h) next
  case summaryRecord =>
    exact h.live (f := fun s => s.owed.elim s fun f => (s.clearFlag f).enqueue (s.summary f)) (by simpa [h.owed] using h) next
  case reportFrameBuild => exact h.live (by simpa [State.buildReady, h.queue] using h) next
  case seriesPoint =>
    refine h.live (f := fun s => s.seriesDue.elim s fun n =>
      { (s.reach n).seriesPointAt n [] with marks := { ((s.reach n).seriesPointAt n []).marks with
          series := s.marks.series.bind Series.advance } }) ?_ next
    cases s.seriesDue with
    | none => exact h
    | some n =>
      have later : Asleep (s.reach n) := h.congr rfl rfl rfl rfl rfl rfl rfl
      exact (later.seriesPointAt n []).withMarks _
  case lineMarkDue i | linePulseEnd i | launch i | vectorBlockEnd i | controlFrameSend i | controlFrameEnd i
      | patternRecognised i | headSymbolLockLoss i | unknownHeadFrame i | deadlineExpiry i | trainingLimitExpiry i =>
    exact h.site_event (i := i) (.inl (by simp)) next
  case trainFrameReceived i f => exact h.site_event (.inr (.inl ⟨f, rfl⟩)) next
  case result i f => exact h.site_event (.inr (.inr (.inl ⟨f, rfl⟩))) next
  case telemetry i f => exact h.site_event (.inr (.inr (.inr ⟨f, rfl⟩))) next
  case unknownRequestKind =>
    exact h.live (f := fun s => match s.oldestRequest (fun k => decide (k ∉ requestKinds)) with
      | some (r, t) => t.respond r .badRequest none
      | none => s) (by simpa [State.oldestRequest, h.intake] using h) next
  case getHub | setHub | readProfile | swapProfile | setSite | setPair | joinSite | retireSite | clearSite | releaseSite
      | readSite | readRegion | readCells => exact h.request next

/-! ### The law of SELFTEST -/

theorem Change.testing {known : Prop} (h : Change known s t) : t.selfTest = s.selfTest ∧ t.resetPin = s.resetPin := by
  cases h with
  | aside quiet => exact ⟨quiet.selfTest, quiet.resetPin⟩
  | site i moved => rw [State.dropRefs_frame]; exact ⟨rfl, rfl⟩
  | copy i d k _ mode _ => rw [State.copyBurst_eq d mode]; exact ⟨rfl, rfl⟩
  | join => rw [State.join_eq]; exact ⟨rfl, rfl⟩
  | swap | requestSwap | setPair => exact ⟨rfl, rfl⟩

theorem Changes.testing {known : Prop} (h : Changes known s t) : t.selfTest = s.selfTest ∧ t.resetPin = s.resetPin := by
  induction h with
  | refl => exact ⟨rfl, rfl⟩
  | tail _ last ih => exact ⟨last.testing.1.trans ih.1, last.testing.2.trans ih.2⟩

/-- Outside SELFTEST no self-test is in progress and the pin is not held, and a command that begins none keeps it so. -/
theorem awake_of_quiet (quiet : QuietInSelfTest s) (hub : s.hub ≠ .selftest) : s.selfTest = none ∧ s.resetPin = .high := by
  obtain ⟨testing, pin, -⟩ := quiet
  constructor
  · cases running : s.selfTest with
    | none => rfl
    | some test => exact absurd (testing (by rw [running]; rfl)) hub
  · cases held : s.resetPin with
    | high => rfl
    | low => exact absurd (pin held) hub

theorem quiet_of_awake (hub : t.hub ≠ .selftest) (selfTest : t.selfTest = none) (pin : t.resetPin = .high) :
    QuietInSelfTest t :=
  ⟨fun running => by simp [selfTest] at running, fun held => by simp [pin] at held, fun test => absurd test hub⟩

theorem quiet_of_ordinary (quiet : QuietInSelfTest s) (ordinary : isOrdinary c = true) (next : exec c s = .next t) :
    QuietInSelfTest t := by
  by_cases hub : s.hub = .selftest
  · exact ((asleep_of_quiet quiet hub).exec ordinary next).quiet
  · obtain ⟨selfTest, pin⟩ := awake_of_quiet quiet hub
    have changes := exec_changes (known := False) (fun no => no.elim) ordinary next
    exact quiet_of_awake (by rw [changes.hub]; exact hub) (changes.testing.1.trans selfTest) (changes.testing.2.trans pin)

/-- A hub whose blocks have just been reset, the banks with their contents or without. -/
theorem asleep_of_reset {profiles : Vector Profile 4} {trunk : TrunkPort} {clock free : Nat} {pending : List Instr}
    {pin : Level} {test : Option SelfTest} (kept : ∀ k : ProfileIx, ∃ a b : Tables, profiles[k] = Profile.reset a b) :
    Asleep { State.reset with pending := pending, clock := clock, freeIndex := free, resetPin := pin, selfTest := test,
                              trunk := trunk, profiles := profiles } := by
  refine ⟨rfl, rfl, rfl, rfl, rfl, rfl, rfl, rfl, fun k => ?_⟩
  obtain ⟨a, b, same⟩ := kept k
  show profiles[k].pendingSwap = false ∧ profiles[k].bankA.valid = false ∧ profiles[k].bankB.valid = false
    ∧ profiles[k].bankA.refCount = 0 ∧ profiles[k].bankB.refCount = 0
  rw [same]
  exact ⟨rfl, rfl, rfl, rfl, rfl⟩

theorem hubMoves_becomeReady : HubMoves s s.becomeReady :=
  .unseen ⟨rfl, rfl, rfl, fun _ => rfl, rfl, rfl⟩ fun _ => rfl

theorem hubMoves_withOutcome (o : TestOutcome) : HubMoves s { s with outcome := o } :=
  .unseen ⟨rfl, rfl, rfl, id, rfl, rfl⟩ fun _ => rfl

theorem hubMoves_diag (k : MemoryGroup) (o : TestOutcome) {n : Nat} (length : s.report.queue.length = n) (room : n < 252) :
    HubMoves s (s.enqueue (.diag k o)) ∧ (s.enqueue (.diag k o)).report.queue.length = n + 1 :=
  ⟨.single (.enqueued _ rfl (by omega)), by rw [State.queue_enqueue, List.length_append, length]; rfl⟩

/-- The end of a self-test admits its DIAG records to an empty queue (R191). -/
theorem hubMoves_selftestEnd (empty : s.report.queue = []) (test : SelfTest) (r : GroupResults) :
    HubMoves s ((s.reach test.endsAt).testResults test.skipped r).becomeReady := by
  have reached : HubMoves s (s.reach test.endsAt) := .unseen ⟨rfl, rfl, rfl, id, rfl, rfl⟩ fun _ => rfl
  have start : (s.reach test.endsAt).report.queue.length = 0 := by rw [show (s.reach test.endsAt).report = s.report from rfl, empty]; rfl
  refine reached.trans (Runs.trans ?_ hubMoves_becomeReady)
  generalize s.reach test.endsAt = v at start ⊢
  unfold State.testResults
  split
  · obtain ⟨admitted, -⟩ := hubMoves_diag .all .skipped start (by decide)
    exact admitted.trans (hubMoves_withOutcome _)
  · have zeroed : HubMoves v v.zeroGroups := .unseen ⟨rfl, rfl, rfl, id, rfl, rfl⟩ fun _ => rfl
    obtain ⟨first, one⟩ := hubMoves_diag .profile (groupOutcome r.profile) (s := v.zeroGroups) start (by decide)
    obtain ⟨second, two⟩ := hubMoves_diag .queues (groupOutcome r.queues) one (by decide)
    obtain ⟨third, three⟩ := hubMoves_diag .regions (groupOutcome r.regions) two (by decide)
    obtain ⟨fourth, -⟩ := hubMoves_diag .report (groupOutcome r.report) three (by decide)
    exact ((((zeroed.trans first).trans second).trans third).trans fourth).trans (hubMoves_withOutcome _)

/-- What the extraordinary commands do to the blocks: nothing that the Report Queue sees, with the SELFTEST law kept; a reset; or
the end of a self-test. -/
theorem exec_extraordinary (quiet : QuietInSelfTest s) (extraordinary : isOrdinary c = false) (next : exec c s = .next t) :
    (Upkeep s t ∧ QuietInSelfTest t)
      ∨ (Asleep t ∧ t.agent = State.reset.agent ∧ t.report = State.reset.report) := by
  have same : (Upkeep s s ∧ QuietInSelfTest s) := ⟨.refl s, quiet⟩
  have awake {r : CtrlRequest} {rest : List CtrlRequest} (waiting : s.agent.intake = r :: rest) : s.hub ≠ .selftest := by
    intro hub
    rw [(asleep_of_quiet quiet hub).intake] at waiting
    cases waiting
  have answered {r : CtrlRequest} {rest : List CtrlRequest} {u : State} {code : RespCode} {data : Option (List Item)}
      (waiting : s.agent.intake = r :: rest) (h : HubMoves (intakeLeft s rest) u) (hub : u.hub ≠ .selftest)
      (selfTest : u.selfTest = s.selfTest) (pin : u.resetPin = s.resetPin) :
      Upkeep s (u.respond r code data) ∧ QuietInSelfTest (u.respond r code data) := by
    have respond := aside_respond u r code data
    obtain ⟨none, high⟩ := awake_of_quiet quiet (awake waiting)
    exact ⟨upkeep_answered waiting h, quiet_of_awake (by rw [respond.hub]; exact hub)
      (by rw [respond.selfTest, selfTest, none]) (by rw [respond.resetPin, pin, high])⟩
  have expired {v : State} (moved : HubMoves s v) (hub : v.hub = s.hub) (selfTest : v.selfTest = s.selfTest)
      (pin : v.resetPin = s.resetPin) (limit : s.beat.limit ≠ 0) :
      Upkeep s v.beatExpire ∧ QuietInSelfTest v.beatExpire := by
    have up : s.hub ≠ .selftest := fun test => limit (asleep_of_quiet quiet test).beatLimit
    obtain ⟨none, high⟩ := awake_of_quiet quiet up
    unfold State.beatExpire
    simp only
    split
    · refine ⟨HubMoves.upkeep (moved.trans (HubMoves.unseen ⟨rfl, rfl, rfl, fun _ => rfl, rfl, rfl⟩ fun _ => rfl)), ?_⟩
      exact quiet_of_awake (by simp) (selfTest.trans none) (pin.trans high)
    · refine ⟨HubMoves.upkeep (moved.trans (HubMoves.unseen ⟨rfl, rfl, rfl, id, rfl, rfl⟩ fun _ => rfl)), ?_⟩
      exact quiet_of_awake (by show v.hub ≠ _; rw [hub]; exact up) (selfTest.trans none) (pin.trans high)
  have lost (target : LinkState) : Upkeep s (s.trunkLost target) ∧ QuietInSelfTest (s.trunkLost target) := by
    have cut : HubMoves s { s with trunk := s.trunk.lose target } := .unseen ⟨rfl, rfl, rfl, id, rfl, rfl⟩ fun _ => rfl
    unfold State.trunkLost
    simp only
    split
    · exact ⟨cut.upkeep, quiet⟩
    · rename_i limit
      exact expired cut rfl rfl rfl limit
  cases c
  case powerOnReset =>
    simp only [exec, execPowerOnReset, Host.Outcome.next.injEq] at next
    subst next
    right
    split <;> exact ⟨asleep_of_reset fun k => ⟨_, _, profile_reset k⟩, rfl, rfl⟩
  case resetPin =>
    simp only [exec, execResetPin, Host.Outcome.next.injEq] at next
    subst next
    exact .inr ⟨asleep_of_reset fun k => ⟨_, _, profile_keepContents _ k⟩, rfl, rfl⟩
  case resetPinRelease =>
    simp only [exec, execResetPinRelease, Host.Outcome.next.injEq] at next
    subst next
    left
    split
    · rename_i held
      refine ⟨.of_same rfl rfl rfl rfl, ?_⟩
      exact Asleep.quiet ((asleep_of_quiet quiet (quiet.2.1 held)).congr rfl rfl rfl rfl rfl rfl rfl)
    · exact same
  case selftestEnd r =>
    left
    cases pin : s.resetPin with
    | low =>
      have stays : t = s := by simpa [exec, execSelftestEnd, live_held s pin] using next.symm
      rw [stays]
      exact same
    | high =>
      rcases execSelftestEnd_cases next with rfl | ⟨test, running, rfl⟩
      · exact same
      · have asleep := asleep_of_quiet quiet (quiet.1 (by rw [running]; rfl))
        refine ⟨(hubMoves_selftestEnd asleep.queue test r).upkeep, quiet_of_awake (by simp [State.becomeReady]) rfl ?_⟩
        obtain ⟨u, ended, rfl | rfl⟩ := aside_testResults (s.reach test.endsAt) test.skipped r
        · exact ended.resetPin.trans pin
        · exact ended.resetPin.trans pin
  case hubReset =>
    rcases execHubReset_cases next with rfl | ⟨r, rest, waiting, rfl⟩ | ⟨rest, skip, rfl⟩
    · exact .inl same
    · exact .inl (answered waiting .refl (awake waiting) rfl rfl)
    · exact .inr ⟨asleep_of_reset fun k => ⟨_, _, profile_keepContents _ k⟩, rfl, rfl⟩
  case writeProfile =>
    left
    rcases execWriteProfile_cases next with rfl | ⟨r, rest, code, data, waiting, rfl | ⟨k, w, -, -, rfl⟩⟩
    · exact same
    · exact answered waiting .refl (awake waiting) rfl rfl
    · exact answered waiting (.unseen ⟨rfl, rfl, rfl, id, rfl, rfl⟩ fun _ => rfl) (awake waiting) rfl rfl
  case resume =>
    left
    rcases execResume_cases next with rfl | ⟨r, rest, code, data, waiting, rfl | ⟨-, -, rfl⟩⟩
    · exact same
    · exact answered waiting .refl (awake waiting) rfl rfl
    · exact answered waiting (.unseen ⟨rfl, rfl, rfl, fun _ => rfl, rfl, rfl⟩ fun _ => rfl) (by simp) rfl rfl
  case trunkSymbolLockLoss =>
    left
    rcases execTrunkSymbolLockLoss_cases next with rfl | rfl | rfl
    · exact same
    · exact lost _
    · exact ⟨.of_same rfl rfl rfl rfl, quiet⟩
  case mainframeRestart =>
    left
    rcases execMainframeRestart_cases next with rfl | rfl
    · exact same
    · exact lost _
  case beatExpiry =>
    left
    rcases execBeatExpiry_cases next with rfl | ⟨n, due, rfl⟩
    · exact same
    · exact expired (.unseen ⟨rfl, rfl, rfl, id, rfl, rfl⟩ fun _ => rfl) rfl rfl rfl (State.beatDue_limit due)
  all_goals cases extraordinary

/-! ### Every step -/

/-- The laws of O57, with the count of records that are no responses. -/
structure Upheld (s : State) : Prop where
  quiet : QuietInSelfTest s
  credit : Credit 0 s
  bounded : Bounded s
  agrees : FlowAgrees s

theorem upheld_of_asleep (asleep : Asleep t) (agent : t.agent = State.reset.agent) (report : t.report = State.reset.report) :
    Upheld t := by
  have level (j : SiteIx) : (t.site j).level = (State.reset.site j).level := by rw [asleep.site, State.site_reset]
  refine ⟨asleep.quiet, ?_, ?_, (flowAgrees_congr asleep.flow (by rw [report]) level).mpr ⟨by decide, by decide⟩⟩
  · rw [Credit, responsesWaiting, report, agent]
    decide
  · rw [Bounded, responsesWaiting, report]
    decide

/-- Every command keeps the laws, and signals a change of the flow state, a reset apart (R57, R58, R59). -/
theorem exec_upheld (h : Upheld s) (next : exec c s = .next t) : Upheld t
    ∧ (t.hub = .selftest ∨ t.flow = s.flow ∨ (t.trunk.pendingFlow = some t.flow.frame ∧ t.report.hubPending = true)) := by
  cases ordinary : isOrdinary c with
  | true =>
    have kept := exec_upkeep ordinary next
    exact ⟨⟨quiet_of_ordinary h.quiet ordinary next, kept.credit h.credit, kept.bounded h.bounded, kept.agrees h.agrees⟩,
      .inr kept.signals⟩
  | false =>
    rcases exec_extraordinary h.quiet ordinary next with ⟨kept, quiet⟩ | ⟨asleep, agent, report⟩
    · exact ⟨⟨quiet, kept.credit h.credit, kept.bounded h.bounded, kept.agrees h.agrees⟩, .inr kept.signals⟩
    · exact ⟨upheld_of_asleep asleep agent report, .inl asleep.hub⟩

theorem FlowState.frame_eq (f : FlowState) : f.frame = if f = .held then .hold else .release := by
  cases f <;> rfl

/-- A command at a step sees the state with the waiting commands, the clock or the count of free values moved on. -/
theorem step_exec (next : step s = .next t) : ∃ (pending : List Instr) (clock free : Nat),
    t = { s with pending := pending, clock := clock, freeIndex := free }
      ∨ ∃ c : Instr, exec c { s with pending := pending, clock := clock, freeIndex := free } = .next t := by
  unfold step at next
  split at next
  · rename_i c rest _
    exact ⟨rest, s.clock, s.freeIndex, .inr ⟨c, next⟩⟩
  · unfold idle at next
    split at next
    · cases next
      exact ⟨s.pending, s.clock + 1, s.freeIndex, .inl rfl⟩
    · exact ⟨s.pending, s.clock, s.freeIndex + 1, .inr ⟨_, next⟩⟩
    · exact ⟨s.pending, s.clock, s.freeIndex + 1, .inr ⟨_, next⟩⟩

/-- Settles O57: credit, queue and flow state by the moves of each command, SELFTEST by the blocks that stand at reset. -/
theorem stepsKeepCreditQueueAndFlow : Obligations.StepsKeepCreditQueueAndFlow := by
  intro s t ⟨⟨sum, few⟩, ⟨bounded, most⟩, quiet, agrees⟩ next
  have held : Upheld s := ⟨quiet, ⟨by omega, few⟩, bounded, agrees⟩
  have concluded {u : State} (h : Upheld u) : CreditKept u ∧ ReportBounded u ∧ QuietInSelfTest u ∧ FlowAgrees u := by
    obtain ⟨sum, few⟩ := h.credit
    have bounded := h.bounded
    unfold Bounded at bounded
    exact ⟨⟨by omega, few⟩, ⟨bounded, by omega⟩, h.quiet, h.agrees⟩
  obtain ⟨pending, clock, free, rfl | ⟨c, next⟩⟩ := step_exec next
  · exact ⟨concluded ⟨held.quiet, held.credit, held.bounded, held.agrees⟩, fun _ changed => absurd rfl changed⟩
  · obtain ⟨kept, signals⟩ := exec_upheld (s := { s with pending := pending, clock := clock, freeIndex := free })
      ⟨held.quiet, held.credit, held.bounded, held.agrees⟩ next
    refine ⟨concluded kept, fun up changed => ?_⟩
    rw [← FlowState.frame_eq]
    rcases signals with test | same | signalled
    · exact absurd test up
    · exact absurd same changed
    · exact signalled

end Sys2Proof.Machine
end

section
/-! The laws of the table banks at every step: reference counts, validated banks, join geometries and bound copies (R14, R16, R19,
R20, R45). -/
namespace Sys2Proof.Machine

open Sys2Proof.Safety

variable {known : Prop} {rate : LinkRate} {rs : List BankRef} {x y : Site} {s t u : State} {i : SiteIx} {c : Instr}

/-! ### Profiles -/

/-- Two profiles that differ in reference counts alone. -/
structure Profile.Like (p q : Profile) : Prop where
  active : q.active = p.active
  swap : q.pendingSwap = p.pendingSwap
  valid : ∀ name : BankName, (q.bank name).valid = (p.bank name).valid
  tables : ∀ name : BankName, (q.bank name).tables = (p.bank name).tables

theorem Profile.Like.refl (p : Profile) : p.Like p := ⟨rfl, rfl, fun _ => rfl, fun _ => rfl⟩

/-- VALID banks pass validation, and a pending swap has a VALID standby bank (R12, R15, R16). -/
def Profile.Sound (p : Profile) : Prop :=
  (∀ name : BankName, (p.bank name).valid = true → (p.bank name).tables.validate = none)
    ∧ (p.pendingSwap = true → p.standbyBank.valid = true)

theorem banksValid_iff : BanksValid s ↔ ∀ k : ProfileIx, (s.profile k).Sound := by
  refine forall_congr' fun k => ⟨fun ⟨a, b, swap⟩ => ⟨fun name => ?_, swap⟩, fun ⟨valid, swap⟩ => ⟨valid .a, valid .b, swap⟩⟩
  cases name
  · exact a
  · exact b

theorem Profile.Like.sound {p q : Profile} (like : p.Like q) (h : p.Sound) : q.Sound := by
  obtain ⟨active, swap, valid, tables⟩ := like
  refine ⟨fun name on => ?_, fun on => ?_⟩
  · rw [tables]; exact h.1 name (by rw [← valid]; exact on)
  · rw [Profile.standbyBank, valid, Profile.standby, active]; exact h.2 (by rw [← swap]; exact on)

/-- A profile serves a site in test with a join geometry (R20). -/
def Profile.Serves (p : Profile) (g : Option Geometry) : Prop :=
  p.activeBank.valid = true ∧ g = some p.activeBank.tables.geometry ∧ (p.pendingSwap = true → p.geometryDiffers = false)

theorem Profile.Like.serves {p q : Profile} {g : Option Geometry} (like : p.Like q) (h : p.Serves g) : q.Serves g := by
  obtain ⟨active, swap, valid, tables⟩ := like
  obtain ⟨on, geometry, same⟩ := h
  refine ⟨?_, ?_, fun pending => ?_⟩
  · rw [Profile.activeBank, valid, active]; exact on
  · rw [Profile.activeBank, tables, active]; exact geometry
  · simp only [Profile.geometryDiffers, Profile.standbyBank, Profile.activeBank, Profile.standby, tables, active]
    exact same (by rw [← swap]; exact pending)

theorem Profile.bank_swap (p : Profile) (name : BankName) : p.swap.bank name = p.bank name := by
  unfold Profile.swap
  split <;> cases name <;> rfl

theorem Profile.Sound.swap {p : Profile} (h : p.Sound) : p.swap.Sound := by
  refine ⟨fun name => by rw [Profile.bank_swap]; exact h.1 name, ?_⟩
  unfold Profile.swap
  split
  · exact nofun
  · exact h.2

/-- A swap that leaves the geometry as it is serves the sites in test as before (R20, R21). -/
theorem Profile.Serves.swap {p : Profile} {g : Option Geometry} (h : p.Serves g) (sound : p.Sound) : p.swap.Serves g := by
  obtain ⟨on, geometry, same⟩ := h
  by_cases pending : p.pendingSwap = true
  · have flipped : p.swap = { p with active := p.active.other, pendingSwap := false } := if_pos pending
    have standby : p.swap.activeBank = p.standbyBank := by
      rw [flipped, Profile.activeBank, Profile.standbyBank, Profile.standby]
      cases p.active <;> rfl
    have equal : p.standbyBank.tables.geometry = p.activeBank.tables.geometry := by
      simpa [Profile.geometryDiffers] using same pending
    refine ⟨by rw [standby]; exact sound.2 pending, by rw [standby, equal]; exact geometry, fun still => ?_⟩
    rw [flipped] at still
    cases still
  · have stays : p.swap = p := if_neg pending
    rw [stays]
    exact ⟨on, geometry, same⟩

theorem Profile.activeBank_modStandby (p : Profile) (f : Bank → Bank) : (p.modBank p.standby f).activeBank = p.activeBank := by
  rw [Profile.activeBank, Profile.active_modBank, Profile.bank_modBank_ne _ fun e => Profile.standby_ne_active p e.symm]
  rfl

theorem Profile.standbyBank_modStandby (p : Profile) (f : Bank → Bank) :
    (p.modBank p.standby f).standbyBank = f p.standbyBank := by
  have name : (p.modBank p.standby f).standby = p.standby := congrArg BankName.other (Profile.active_modBank p _ f)
  rw [Profile.standbyBank, name]
  exact Profile.bank_modBank_same _ _ _

/-- A bank after the standby bank has changed. -/
theorem Profile.bank_modStandby (p : Profile) (f : Bank → Bank) (name : BankName) :
    (p.modBank p.standby f).bank name = if name = p.standby then f p.standbyBank else p.bank name := by
  split
  · rename_i same; rw [same]; exact Profile.bank_modBank_same _ _ _
  · rename_i other; exact Profile.bank_modBank_ne _ other _

theorem Profile.bank_requestSwap (p : Profile) (name : BankName) :
    p.requestSwap.bank name = if name = p.standby then { p.standbyBank with valid := true } else p.bank name := by
  refine Eq.trans ?_ (p.bank_modStandby (fun b => { b with valid := true }) name)
  cases name <;> rfl

/-- An accepted swap makes VALID a standby bank that passes validation (R15). -/
theorem Profile.Sound.requestSwap {p : Profile} (h : p.Sound) (passes : p.swapFailure = none) : p.requestSwap.Sound := by
  have validated : p.standbyBank.tables.validate = none := by
    unfold Profile.swapFailure at passes
    split at passes
    · rename_i valid; exact h.1 _ valid
    · exact passes
  refine ⟨fun name => ?_, fun _ => ?_⟩
  · rw [Profile.bank_requestSwap]
    split
    · exact fun _ => validated
    · exact h.1 name
  · have standby : p.requestSwap.standby = p.standby := by
      simp only [Profile.requestSwap, Profile.standby, Profile.active_modBank]
    rw [Profile.standbyBank, standby, Profile.bank_requestSwap, if_pos rfl]

theorem Profile.Serves.requestSwap {p : Profile} {g : Option Geometry} (h : p.Serves g) (same : p.geometryDiffers = false) :
    p.requestSwap.Serves g := by
  have active : p.requestSwap.activeBank = p.activeBank := Profile.activeBank_modStandby p _
  have standby : p.requestSwap.standbyBank.tables = p.standbyBank.tables := by
    show (p.modBank p.standby _).standbyBank.tables = _
    rw [Profile.standbyBank_modStandby]
  obtain ⟨on, geometry, -⟩ := h
  refine ⟨by rw [active]; exact on, by rw [active]; exact geometry, fun _ => ?_⟩
  rw [Profile.geometryDiffers, active, standby]
  exact same

theorem Profile.Sound.write {p : Profile} {w : ProfileWrite} (h : p.Sound) (noSwap : p.pendingSwap = false) :
    (p.write w).Sound := by
  refine ⟨fun name => ?_, fun pending => ?_⟩
  · rw [Profile.write, Profile.bank_modStandby]
    split
    · exact nofun
    · exact h.1 name
  · rw [Profile.write, Profile.pendingSwap_modBank, noSwap] at pending
    cases pending

theorem Profile.Serves.write {p : Profile} {w : ProfileWrite} {g : Option Geometry} (h : p.Serves g)
    (noSwap : p.pendingSwap = false) : (p.write w).Serves g := by
  obtain ⟨on, geometry, -⟩ := h
  rw [Profile.Serves, Profile.write, Profile.activeBank_modStandby, Profile.pendingSwap_modBank, noSwap]
  exact ⟨on, geometry, nofun⟩

theorem Profile.reset_sound (a b : Tables) : (Profile.reset a b).Sound :=
  ⟨fun name => by cases name <;> exact nofun, nofun⟩

/-! ### Banks at a change of one site -/

theorem like_dropRefs (rs : List BankRef) (k : ProfileIx) : (s.profile k).Like ((s.dropRefs rs).profile k) := by
  obtain ⟨active, swap⟩ := profile_dropRefs s rs k
  have bank (name : BankName) := s.bank_dropRefs rs ⟨k, name⟩
  refine ⟨active, swap, fun name => ?_, fun name => ?_⟩
  · rw [← State.bank_profile _ ⟨k, name⟩, bank]; rfl
  · rw [← State.bank_profile _ ⟨k, name⟩, bank]; rfl

theorem like_addRef (r : BankRef) (k : ProfileIx) : (s.profile k).Like ((s.addRef r).profile k) := by
  have bank (name : BankName) := s.bank_addRef r ⟨k, name⟩
  have pointer : ((s.addRef r).profile k).active = (s.profile k).active
      ∧ ((s.addRef r).profile k).pendingSwap = (s.profile k).pendingSwap := by
    rw [State.addRef, State.modBank_eq, State.profile_modProfile]
    split
    · rename_i same
      rw [same]
      exact ⟨Profile.active_modBank _ _ _, Profile.pendingSwap_modBank _ _ _⟩
    · exact ⟨rfl, rfl⟩
  refine ⟨pointer.1, pointer.2, fun name => ?_, fun name => ?_⟩
  · rw [← State.bank_profile _ ⟨k, name⟩, bank]
    split
    · rename_i same; rw [← same]; rfl
    · rfl
  · rw [← State.bank_profile _ ⟨k, name⟩, bank]
    split
    · rename_i same; rw [← same]; rfl
    · rfl

/-! ### Sites and their banks -/

/-- What a site needs of the profiles: its own serves it in test, it has one where it is enabled, and its copies are bound to VALID
banks of its join geometry (R20, R45, R99). -/
structure Bound (profile : ProfileIx → Profile) (x : Site) : Prop where
  served : x.run.state.inTest = true → ∀ k : ProfileIx, x.config.mode = .profile k → (profile k).Serves x.run.joinGeometry
  enabled : x.run.state ≠ .disabled → x.run.state ≠ .released → x.config.mode ≠ .disabled
  copies : ∀ r ∈ boundBanks x, x.config.mode = .profile r.profile ∧ ((profile r.profile).bank r.bank).valid = true
    ∧ x.run.joinGeometry = some ((profile r.profile).bank r.bank).tables.geometry

theorem bound_iff : (∀ i : SiteIx, Bound s.profile (s.site i)) ↔ GeometryLaw s ∧ CopiesBoundRight s :=
  ⟨fun h => ⟨fun i => ⟨(h i).served, (h i).enabled⟩, fun i => (h i).copies⟩,
    fun ⟨geometry, copies⟩ i => ⟨(geometry i).1, (geometry i).2, copies i⟩⟩

theorem Bound.like {p q : ProfileIx → Profile} (h : Bound p x) (like : ∀ k : ProfileIx, (p k).Like (q k)) : Bound q x :=
  ⟨fun inTest k mode => (like k).serves (h.served inTest k mode), h.enabled, fun r bound => by
    rw [(like r.profile).valid, (like r.profile).tables]
    exact h.copies r bound⟩

@[simp] theorem joinGeometry_withCause (k : Cause) (r : RunRecord) : (withCause k r).joinGeometry = r.joinGeometry := by
  unfold withCause
  split
  · rfl
  · split <;> rfl

theorem boundBanks_congr (queue : y.head.launchQueue = x.head.launchQueue) (list : y.head.inFlight = x.head.inFlight) :
    boundBanks y = boundBanks x := by
  rw [boundBanks, boundBanks, queue, list]

theorem boundBanks_of_empty (queue : y.head.launchQueue = []) (list : y.head.inFlight = []) : boundBanks y = [] := by
  rw [boundBanks, queue, list]
  rfl

/-- A change of one site lets the copies of its list leave, and keeps the others (R14). -/
theorem SiteChange.copies (change : SiteChange known rate rs x y) (queues : QueuesLaw rate x) :
    (boundBanks x).Perm (rs ++ boundBanks y) := by
  cases change
  case minor same =>
    have head : y.essence.head = x.essence.head := by rw [same]
    simp only [Site.essence, HeadPort.mk.injEq] at head
    obtain ⟨-, -, -, -, -, -, -, -, queue, list, -⟩ := head
    rw [List.nil_append, boundBanks_congr queue list]
  case drain => exact .refl _
  case abandon running =>
    rw [boundBanks, copiesLost]
    rcases running with active | draining
    · simp [abandonedSite, retiredSite, boundBanks, active]
    · simp [abandonedSite, retiredSite, boundBanks, draining, queues.2.2.1 (by simp [draining])]
  case launch e rest record began bound first active _ _ =>
    simp only [boundBanks, first, List.map_cons, List.map_append, List.map_nil, bound, List.nil_append]
    rw [List.cons_append, ← List.append_assoc]
    exact (List.perm_append_singleton _ _).symm
  case answered k inside =>
    simp only [boundBanks]
    conv => lhs; rw [← List.take_append_drop (k + 1) x.head.inFlight, List.map_append]
    rw [← List.append_assoc, ← List.append_assoc]
    exact List.perm_append_comm.append_right _
  all_goals exact .refl _

/-- A change of one site takes none into test, and keeps mode and join geometry in test; a site outside test holds no copies. -/
theorem Bound.change {p : ProfileIx → Profile} (h : Bound p x) (change : SiteChange known rate rs x y)
    (queues : QueuesLaw rate x) : Bound p y := by
  have subset {r : BankRef} (bound : r ∈ boundBanks y) : r ∈ boundBanks x :=
    (change.copies queues).mem_iff.mpr (List.mem_append_right _ bound)
  have kept (state : y.run.state.inTest = true → x.run.state.inTest = true)
      (other : y.run.state ≠ .disabled → y.run.state ≠ .released → x.run.state ≠ .disabled ∧ x.run.state ≠ .released)
      (mode : y.config.mode = x.config.mode) (geometry : y.run.joinGeometry = x.run.joinGeometry) : Bound p y := by
    refine ⟨fun inTest k own => ?_, fun a b => ?_, fun r bound => ?_⟩
    · rw [geometry]; exact h.served (state inTest) k (by rw [← mode]; exact own)
    · rw [mode]; exact h.enabled (other a b).1 (other a b).2
    · rw [mode, geometry]; exact h.copies r (subset bound)
  have resting (state : y.run.state.inTest = false) (empty : boundBanks x = [])
      (mode : y.run.state ≠ .disabled → y.run.state ≠ .released → y.config.mode ≠ .disabled) : Bound p y :=
    ⟨fun inTest => by simp [state] at inTest, mode, fun r bound => by simpa [empty] using subset bound⟩
  cases change
  case minor same =>
    have run : y.essence.run = x.essence.run := by rw [same]
    have config : y.essence.config = x.essence.config := by rw [same]
    simp only [Site.essence, SiteConfig.mk.injEq] at run config
    exact kept (by rw [run]; exact id) (by rw [run]; exact fun a b => ⟨a, b⟩) config.1 (by rw [run])
  case cause k _ => exact kept (by simp) (fun a b => ⟨by simpa using a, by simpa using b⟩) rfl (by simp)
  case trainFail state => exact kept (by simp [SiteState.inTest]) (by simp [state]) rfl (by simp)
  case retire leaving =>
    refine kept (by simp [retiredSite, SiteState.inTest]) (fun _ _ => ?_) rfl rfl
    rcases leaving with state | state | ⟨state, -⟩ <;> simp [state]
  case drain state => exact kept (by simp [state, SiteState.inTest]) (by simp [state]) rfl rfl
  case abandon running =>
    refine kept (by simp [abandonedSite, retiredSite, SiteState.inTest]) (fun _ _ => ?_) rfl rfl
    rcases running with state | state <;> simp [state]
  case prime state => exact kept (by simp [state, SiteState.inTest]) (by simp [state]) rfl rfl
  case activate state => exact kept (by simp [state, SiteState.inTest]) (by simp [state]) rfl rfl
  case trained state => exact kept (by simp [SiteState.inTest]) (by simp [state]) rfl rfl
  case retrain _ state _ => exact kept (by simp [SiteState.inTest]) (by simp [state]) rfl rfl
  case release state _ => exact kept (by simp [SiteState.inTest]) (by simp) rfl rfl
  case releaseDown state => exact kept (by simp [SiteState.inTest]) (by simp) rfl rfl
  case setProfile k state =>
    obtain ⟨queue, list⟩ := queues.empty_at_rest (by grind)
    refine resting ?_ (boundBanks_of_empty queue list) (by simp)
    rcases state with state | state | state <;> simp [state, SiteState.inTest]
  case disable state =>
    obtain ⟨queue, list⟩ := queues.empty_at_rest (by grind)
    exact resting rfl (boundBanks_of_empty queue list) (by simp)
  case bringUp k limit state =>
    obtain ⟨queue, list⟩ := queues.empty_at_rest (by grind)
    exact resting rfl (boundBanks_of_empty queue list) (by simp)
  case clearIdle state _ =>
    obtain ⟨queue, list⟩ := queues.empty_at_rest (by grind)
    exact resting rfl (boundBanks_of_empty queue list) fun _ _ => h.enabled (by simp [state]) (by simp [state])
  case clearTraining limit state =>
    obtain ⟨queue, list⟩ := queues.empty_at_rest (by grind)
    exact resting rfl (boundBanks_of_empty queue list) fun _ _ => h.enabled (by simp [state]) (by simp [state])
  all_goals exact kept id (fun a b => ⟨a, b⟩) rfl rfl

/-! ### Reference counts -/

/-- A sum over a list without repeats, once one of its members counts otherwise. -/
theorem sum_map_change {f f' : SiteIx → Nat} (same : ∀ j : SiteIx, j ≠ i → f' j = f j) {l : List SiteIx} (distinct : l.Nodup)
    (here : i ∈ l) : (l.map f').sum + f i = (l.map f).sum + f' i := by
  induction l with
  | nil => cases here
  | cons j l ih =>
    obtain ⟨fresh, distinct⟩ := List.nodup_cons.mp distinct
    simp only [List.map_cons, List.sum_cons]
    by_cases head : j = i
    · subst head
      have rest : l.map f' = l.map f := List.map_congr_left fun k hk => same k fun e => fresh (e ▸ hk)
      rw [rest]
      omega
    · have more := ih distinct ((List.mem_cons.mp here).resolve_left fun e => head e.symm)
      rw [same j head]
      omega

theorem le_sum_map (f : SiteIx → Nat) {l : List SiteIx} (here : i ∈ l) : f i ≤ (l.map f).sum := by
  induction l with
  | nil => cases here
  | cons j l ih =>
    rw [List.map_cons, List.sum_cons]
    rcases List.mem_cons.mp here with rfl | later
    · exact Nat.le_add_right _ _
    · exact Nat.le_trans (ih later) (Nat.le_add_left _ _)

/-- The copies bound to a bank once one site has changed: those of the others, and those of the site. -/
theorem copiesBound_modSite {f : Site → Site} (r : BankRef) :
    copiesBound (s.modSite i f) r + (boundBanks (s.site i)).count r
      = copiesBound s r + (boundBanks (f (s.site i))).count r := by
  have change := sum_map_change (i := i) (f := fun j => (boundBanks (s.site j)).count r)
    (f' := fun j => (boundBanks ((s.modSite i f).site j)).count r)
    (fun j other => by rw [State.site_modSite_ne s other]) nodup_allSites (mem_allSites i)
  rw [State.site_modSite_same] at change
  exact change

/-- The copies that a site binds to a bank are among those counted. -/
theorem count_le_copiesBound (s : State) (i : SiteIx) (r : BankRef) : (boundBanks (s.site i)).count r ≤ copiesBound s r :=
  le_sum_map (fun j => (boundBanks (s.site j)).count r) (mem_allSites i)

/-- A bank with a copy bound to it is counted (R14). -/
theorem copiesBound_pos {r : BankRef} (bound : r ∈ boundBanks (s.site i)) : 0 < copiesBound s r :=
  Nat.lt_of_lt_of_le (List.count_pos_iff.mpr bound) (count_le_copiesBound s i r)

/-- With no site holding a copy, none is bound. -/
theorem copiesBound_zero (none : ∀ i : SiteIx, boundBanks (s.site i) = []) (r : BankRef) : copiesBound s r = 0 := by
  have zero : (fun i : SiteIx => (boundBanks (s.site i)).count r) = fun _ => 0 := funext fun i => by rw [none]; rfl
  rw [copiesBound, zero]
  rfl

theorem refsCounted_iff : RefsCounted s ↔ ∀ r : BankRef, (s.bank r).refCount = copiesBound s r := by
  refine ⟨fun h r => ?_, fun h k => ⟨h ⟨k, .a⟩, h ⟨k, .b⟩⟩⟩
  obtain ⟨k, name⟩ := r
  cases name
  · exact (h k).1
  · exact (h k).2

theorem copiesBound_congr (sites : t.sites = s.sites) (r : BankRef) : copiesBound t r = copiesBound s r := by
  simp only [copiesBound, State.site, sites]

/-! ### The hub -/

/-- The laws of the banks and of the sites that use them. -/
structure BankLaws (s : State) : Prop where
  sound : ∀ k : ProfileIx, (s.profile k).Sound
  bound : ∀ i : SiteIx, Bound s.profile (s.site i)
  counted : ∀ r : BankRef, (s.bank r).refCount = copiesBound s r
  queues : AllSites QueuesLaw s

/-- The laws hold wherever the sites are as before and each profile serves as before. -/
theorem BankLaws.of_profiles (h : BankLaws s) (sites : t.sites = s.sites) (sound : ∀ k : ProfileIx, (t.profile k).Sound)
    (serves : ∀ (i : SiteIx) (k : ProfileIx), (s.site i).run.state.inTest = true → (s.site i).config.mode = .profile k →
      (t.profile k).Serves (s.site i).run.joinGeometry)
    (copies : ∀ (r : BankRef), 0 < copiesBound s r → (s.bank r).valid = true →
      (t.bank r).valid = true ∧ (t.bank r).tables.geometry = (s.bank r).tables.geometry)
    (counts : ∀ r : BankRef, (t.bank r).refCount = (s.bank r).refCount) : BankLaws t := by
  have site (i : SiteIx) : t.site i = s.site i := by rw [State.site, sites]; rfl
  refine ⟨sound, fun i => ?_, fun r => by rw [counts, h.counted, copiesBound_congr sites], fun i => by rw [site]; exact h.queues i⟩
  rw [site]
  refine ⟨fun inTest k mode => serves i k inTest mode, (h.bound i).enabled, fun r bound => ?_⟩
  obtain ⟨mode, valid, geometry⟩ := (h.bound i).copies r bound
  obtain ⟨valid', same⟩ := copies r (copiesBound_pos bound) valid
  exact ⟨mode, valid', geometry.trans (congrArg some same.symm)⟩

/-- The laws at a change of one site, its copies and counts moving together. -/
theorem BankLaws.of_site {f : Site → Site} (h : BankLaws s) (like : ∀ k : ProfileIx, (s.profile k).Like (t.profile k))
    (sites : t.sites = s.sites) (bound : Bound s.profile (f (s.site i)))
    (counts : ∀ r : BankRef, (t.bank r).refCount + (boundBanks (s.site i)).count r
      = (s.bank r).refCount + (boundBanks (f (s.site i))).count r)
    (queues : AllSites QueuesLaw (t.modSite i f)) : BankLaws (t.modSite i f) := by
  have site (j : SiteIx) : t.site j = s.site j := by rw [State.site, sites]; rfl
  refine ⟨fun k => (like k).sound (h.sound k), fun j => ?_, fun r => ?_, queues⟩
  · have liked : ∀ k : ProfileIx, (s.profile k).Like ((t.modSite i f).profile k) := like
    rw [State.site_modSite]
    split
    · rw [site]; exact bound.like liked
    · rw [site]; exact (h.bound j).like liked
  · have moved := copiesBound_modSite (s := t) (i := i) (f := f) r
    have before := h.counted r
    have now := counts r
    rw [site, copiesBound_congr sites] at moved
    rw [State.bank_modSite]
    omega

theorem geometryLocked_of {k : ProfileIx} (inTest : (s.site i).run.state.inTest = true)
    (mode : (s.site i).config.mode = .profile k) : s.geometryLocked k = true := by
  rw [State.geometryLocked, any_allSites]
  exact ⟨i, by simp [inTest, mode]⟩

/-- Every change of the hub keeps the laws of the banks. -/
theorem BankLaws.change (h : BankLaws s) (change : Change known s t) : BankLaws t := by
  have queues : AllSites QueuesLaw t := queuesLaw.keeps h.queues change fun i k idle _ _ => by
    obtain ⟨queue, list⟩ := (h.queues i).empty_of_eq idle (by decide)
    exact .of_empty queue list
  cases change with
  | aside quiet =>
    have profile (k : ProfileIx) : t.profile k = s.profile k := by rw [State.profile, quiet.profiles]; rfl
    refine h.of_profiles quiet.sites (fun k => by rw [profile]; exact h.sound k)
      (fun i k inTest mode => by rw [profile]; exact (h.bound i).served inTest k mode) (fun r _ valid => ?_) fun r => ?_
    · rw [State.bank, profile]; exact ⟨valid, rfl⟩
    · rw [State.bank, profile]; rfl
  | @site i rs f moved =>
    refine h.of_site (like_dropRefs rs) (by rw [State.dropRefs_frame]) ((h.bound i).change moved (h.queues i)) (fun r => ?_) queues
    have left := (moved.copies (h.queues i)).count_eq r
    have all : (boundBanks (s.site i)).count r ≤ (s.bank r).refCount := by
      rw [h.counted]
      exact count_le_copiesBound s i r
    rw [List.count_append] at left
    rw [State.bank_dropRefs]
    simp only
    omega
  | copy i d k active mode room =>
    rw [State.copyBurst_eq d mode] at queues ⊢
    have test : (s.site i).run.state.inTest = true := by rw [active]; rfl
    obtain ⟨valid, geometry, -⟩ := (h.bound i).served test k mode
    refine h.of_site (like_addRef _) rfl ⟨(h.bound i).served, (h.bound i).enabled, fun r bound => ?_⟩ (fun r => ?_) queues
    · have split : r ∈ boundBanks (s.site i) ∨ r = ⟨k, (s.profile k).active⟩ := by
        simp only [boundBanks, List.map_append, List.map_cons, List.map_nil, List.mem_append, List.mem_singleton] at bound ⊢
        grind
      rcases split with old | rfl
      · exact (h.bound i).copies r old
      · exact ⟨mode, valid, geometry⟩
    · rw [State.bank_addRef]
      simp only [boundBanks, List.map_append, List.map_cons, List.map_nil, List.count_append, List.count_cons, List.count_nil]
      by_cases same : r = ⟨k, (s.profile k).active⟩
      · subst same
        simp only [if_true, beq_self_eq_true]
        omega
      · have other : ((⟨k, (s.profile k).active⟩ : BankRef) == r) = false := by simpa using fun e => same e.symm
        simp only [same, other, if_false, Bool.false_eq_true]
        omega
  | swap k =>
    refine h.of_profiles rfl (fun l => ?_) (fun i l inTest mode => ?_) (fun r _ valid => ?_) fun r => ?_
    · rw [State.profile_modProfile]
      split
      · exact (h.sound k).swap
      · exact h.sound l
    · rw [State.profile_modProfile]
      split
      · rename_i same; subst same; exact ((h.bound i).served inTest _ mode).swap (h.sound _)
      · exact (h.bound i).served inTest l mode
    · have bank : (s.modProfile k Profile.swap).bank r = s.bank r := by
        simp only [State.bank, State.profile_modProfile]
        split
        · rename_i same; rw [same, Profile.bank_swap]
        · rfl
      rw [bank]
      exact ⟨valid, rfl⟩
    · simp only [State.bank, State.profile_modProfile]
      split
      · rename_i same; rw [same, Profile.bank_swap]
      · rfl
  | requestSwap k noSwap passes free =>
    refine h.of_profiles rfl (fun l => ?_) (fun i l inTest mode => ?_) (fun r _ valid => ?_) fun r => ?_
    · rw [State.profile_modProfile]
      split
      · exact (h.sound k).requestSwap passes
      · exact h.sound l
    · rw [State.profile_modProfile]
      split
      · rename_i same
        subst same
        refine ((h.bound i).served inTest _ mode).requestSwap (eq_false_of_ne_true fun differs => free ⟨differs, ?_⟩)
        exact geometryLocked_of inTest mode
      · exact (h.bound i).served inTest l mode
    · rw [State.bank_profile] at valid
      simp only [State.bank, State.profile_modProfile]
      split
      · rename_i same
        subst same
        rw [Profile.tables_requestSwap, Profile.bank_requestSwap]
        refine ⟨?_, rfl⟩
        split
        · rfl
        · exact valid
      · exact ⟨valid, rfl⟩
    · simp only [State.bank, State.profile_modProfile]
      split
      · rename_i same
        subst same
        rw [Profile.bank_requestSwap]
        split
        · rename_i standby; rw [standby]; rfl
        · rfl
      · rfl
  | setPair k o _ =>
    exact h.of_profiles rfl h.sound (fun i l inTest mode => (h.bound i).served inTest l mode) (fun r _ valid => ⟨valid, rfl⟩)
      fun _ => rfl
  | join i k idle mode valid free =>
    rw [State.join_eq] at queues ⊢
    have none := (h.queues i).empty_of_eq idle (by decide)
    refine h.of_site (fun _ => .refl _) rfl ⟨fun _ l own => ?_, fun _ _ => by simp [mode], fun r bound => ?_⟩ (fun _ => rfl) queues
    · have same : l = k := by simpa using own.symm.trans mode
      subst same
      refine ⟨valid, rfl, fun pending => eq_false_of_ne_true fun differs => free ⟨pending, differs⟩⟩
    · have empty := boundBanks_of_empty none.1 none.2
      have old : r ∈ boundBanks (s.site i) := bound
      rw [empty] at old
      cases old

/-- Every upheaval keeps them: what is written is a standby bank without references, and a self-test ends with every site at
reset. -/
theorem BankLaws.upheaval (h : BankLaws s) (quiet : QuietInSelfTest s) (upheaval : Upheaval s t) : BankLaws t := by
  have queues : AllSites QueuesLaw t := (queuesLaw (known := False)).keeps_upheaval h.queues upheaval
  have atReset (sites : t.sites = Vector.replicate 8 Site.reset)
      (profiles : ∀ k : ProfileIx, ∃ a b : Tables, t.profile k = Profile.reset a b) : BankLaws t := by
    have site (i : SiteIx) : t.site i = Site.reset := by
      rw [State.site, sites]
      exact Vector.getElem_replicate _
    refine ⟨fun k => ?_, fun i => ?_, fun r => ?_, queues⟩
    · obtain ⟨a, b, same⟩ := profiles k
      rw [same]
      exact Profile.reset_sound a b
    · rw [site]
      exact ⟨nofun, fun disabled => absurd rfl disabled, nofun⟩
    · obtain ⟨a, b, same⟩ := profiles r.profile
      have none : copiesBound t r = 0 := copiesBound_zero (fun i => by rw [site]; rfl) r
      rw [none, State.bank, same]
      cases r.bank <;> rfl
  cases upheaval with
  | rest sites profiles _ =>
    have profile (k : ProfileIx) : t.profile k = s.profile k := by rw [State.profile, profiles]; rfl
    refine h.of_profiles sites (fun k => by rw [profile]; exact h.sound k)
      (fun i k inTest mode => by rw [profile]; exact (h.bound i).served inTest k mode) (fun r _ valid => ?_) fun r => ?_
    · rw [State.bank, profile]; exact ⟨valid, rfl⟩
    · rw [State.bank, profile]; rfl
  | wrote k w noSwap free sites _ profiles =>
    have profile (l : ProfileIx) : t.profile l = if l = k then (s.profile k).write w else s.profile l := by
      rw [State.profile, profiles]
      exact State.profile_modProfile s k l _
    refine h.of_profiles sites (fun l => ?_) (fun i l inTest mode => ?_) (fun r copies valid => ?_) fun r => ?_
    · rw [profile]
      split
      · exact (h.sound k).write noSwap
      · exact h.sound l
    · rw [profile]
      split
      · rename_i same; subst same; exact ((h.bound i).served inTest _ mode).write noSwap
      · exact (h.bound i).served inTest l mode
    · rw [State.bank, profile]
      split
      · rename_i same
        subst same
        rw [Profile.write, Profile.bank_modStandby]
        split
        · rename_i standby
          have zero : (s.bank r).refCount = 0 := by rw [State.bank, standby]; exact free
          rw [h.counted] at zero
          omega
        · exact ⟨valid, rfl⟩
      · exact ⟨valid, rfl⟩
    · rw [State.bank, profile]
      split
      · rename_i same
        subst same
        rw [Profile.write, Profile.bank_modStandby]
        split
        · rename_i standby; rw [State.bank, standby]; rfl
        · rfl
      · rfl
  | tested running sites _ profiles =>
    refine atReset (sites.trans (asleep_of_quiet quiet (quiet.1 running)).sites) fun k => ⟨Tables.zeroed, Tables.zeroed, ?_⟩
    rw [State.profile, profiles]
    exact Vector.getElem_replicate _
  | restarted sites profiles => exact atReset sites profiles

theorem exec_bankLaws (quiet : QuietInSelfTest s) (h : BankLaws s) (next : exec c s = .next t) : BankLaws t := by
  cases ordinary : isOrdinary c with
  | false => exact h.upheaval quiet (exec_upheaval ordinary next)
  | true =>
    have changes := exec_changes (known := False) (fun no => no.elim) ordinary next
    clear next
    induction changes with
    | refl => exact h
    | tail _ last ih => exact ih.change last

theorem exec_quiet (quiet : QuietInSelfTest s) (next : exec c s = .next t) : QuietInSelfTest t := by
  cases ordinary : isOrdinary c with
  | true => exact quiet_of_ordinary quiet ordinary next
  | false =>
    rcases exec_extraordinary quiet ordinary next with ⟨-, kept⟩ | ⟨asleep, -, -⟩
    · exact kept
    · exact asleep.quiet

/-- Settles O56: every change of the hub keeps the laws of the banks, and so does every upheaval outside and at the end of a
self-test. -/
theorem stepsKeepTheBankLaws : Obligations.StepsKeepTheBankLaws := by
  intro s t ⟨quiet, valid, geometry, counted, held, copies⟩ next
  have laws : QuietInSelfTest t ∧ BankLaws t := by
    refine step_keeps (law := fun s => QuietInSelfTest s ∧ BankLaws s)
      (fun _ _ _ _ h => ⟨h.1, h.2.sound, h.2.bound, h.2.counted, h.2.queues⟩)
      (fun c s t h next => ⟨exec_quiet h.1 next, exec_bankLaws h.1 h.2 next⟩)
      ⟨quiet, banksValid_iff.mp valid, bound_iff.mpr ⟨geometry, copies⟩, refsCounted_iff.mp counted, held⟩ next
  obtain ⟨quiet', laws⟩ := laws
  obtain ⟨geometry', copies'⟩ := bound_iff.mp laws.bound
  exact ⟨quiet', banksValid_iff.mpr laws.sound, geometry', refsCounted_iff.mpr laws.counted, laws.queues, copies'⟩

end Sys2Proof.Machine
end

section
/-! The Repair Screen of one region: the screen passes follow the rules of `Screened` (R108 to R117). The column scan is the row scan
of the region with rows and columns exchanged, so each fact is proved for rows. -/
namespace Sys2Proof.Machine

open Sys2Proof.Safety

/-! ### Ascending lists -/

theorem mem_insertAsc {x y : Nat} {l : List Nat} : y ∈ insertAsc x l ↔ y = x ∨ y ∈ l := by
  induction l with
  | nil => simp [insertAsc]
  | cons z zs ih =>
    rw [insertAsc]
    split
    · simp
    · split
      · rename_i same; subst same; simp
      · rw [List.mem_cons, ih, List.mem_cons]; grind

theorem insertAsc_sorted {x : Nat} {l : List Nat} (h : l.Pairwise (· < ·)) : (insertAsc x l).Pairwise (· < ·) := by
  induction l with
  | nil => simp [insertAsc]
  | cons z zs ih =>
    obtain ⟨least, sorted⟩ := List.pairwise_cons.mp h
    rw [insertAsc]
    split
    · rename_i before
      refine List.pairwise_cons.mpr ⟨fun y hy => ?_, h⟩
      rcases List.mem_cons.mp hy with rfl | hy
      · exact before
      · exact Nat.lt_trans before (least y hy)
    · split
      · exact h
      · refine List.pairwise_cons.mpr ⟨fun y hy => ?_, ih sorted⟩
        rcases mem_insertAsc.mp hy with rfl | hy
        · omega
        · exact least y hy

theorem mem_distinctAsc {y : Nat} {l : List Nat} : y ∈ distinctAsc l ↔ y ∈ l := by
  induction l with
  | nil => rfl
  | cons x xs ih =>
    rw [show distinctAsc (x :: xs) = insertAsc x (distinctAsc xs) from rfl, mem_insertAsc, ih, List.mem_cons]

theorem distinctAsc_sorted (l : List Nat) : (distinctAsc l).Pairwise (· < ·) := by
  induction l with
  | nil => exact .nil
  | cons x xs ih => exact insertAsc_sorted ih

theorem distinctAsc_nodup (l : List Nat) : (distinctAsc l).Nodup :=
  (distinctAsc_sorted l).imp fun h => Nat.ne_of_lt h

theorem le_foldr_max {x : Nat} {l : List Nat} (h : x ∈ l) : x ≤ l.foldr max 0 := by
  induction l with
  | nil => cases h
  | cons y ys ih =>
    rw [List.foldr_cons]
    rcases List.mem_cons.mp h with rfl | h
    · exact Nat.le_max_left _ _
    · exact Nat.le_trans (ih h) (Nat.le_max_right _ _)

theorem mem_linesOver {limit x : Nat} {l : List Nat} : x ∈ linesOver limit l ↔ limit < l.count x := by
  rw [linesOver, List.mem_filter, List.mem_range, decide_eq_true_eq, and_iff_right_iff_imp]
  intro more
  have present : x ∈ l := List.count_pos_iff.mp (by omega)
  have := le_foldr_max present
  omega

theorem linesOver_sorted (limit : Nat) (l : List Nat) : (linesOver limit l).Pairwise (· < ·) :=
  List.pairwise_lt_range.filter _

theorem linesOver_nodup (limit : Nat) (l : List Nat) : (linesOver limit l).Nodup :=
  (linesOver_sorted limit l).imp fun h => Nat.ne_of_lt h

/-- The forced lines are those of the distinct values present that are over the limit, ascending. -/
theorem linesOver_eq (limit : Nat) (l : List Nat) :
    linesOver limit l = (distinctAsc l).filter fun x => decide (limit < l.count x) := by
  refine List.Perm.eq_of_pairwise (le := (· < ·)) (fun a b _ _ h h' => absurd h (Nat.lt_asymm h')) (linesOver_sorted limit l)
    ((distinctAsc_sorted l).filter _) ?_
  refine (List.perm_ext_iff_of_nodup (linesOver_nodup limit l) ((distinctAsc_nodup l).filter _)).mpr fun x => ?_
  rw [mem_linesOver, List.mem_filter, mem_distinctAsc, decide_eq_true_eq, iff_and_self]
  exact fun more => List.count_pos_iff.mp (by omega)

/-! ### Rows and columns exchanged -/

/-- A cell with row and column exchanged. -/
def Cell.flip (x : Cell) : Cell := ⟨x.col, x.row, x.hits⟩

/-- A region with rows and columns exchanged. -/
def Region.flip (g : Region) : Region :=
  { g with srRem := g.scRem, scRem := g.srRem, rows := g.cols, cols := g.rows, cells := g.cells.map Cell.flip }

/-- A region in its passes with rows and columns exchanged. -/
def ScreenWork.flip (w : ScreenWork) : ScreenWork := ⟨w.region.flip, w.extra.map Prod.swap⟩

@[simp] theorem flip_comp_flip : Cell.flip ∘ Cell.flip = id := rfl

theorem map_flip_flip (cells : List Cell) : (cells.map Cell.flip).map Cell.flip = cells := by simp

@[simp] theorem Region.flip_flip (g : Region) : g.flip.flip = g := by
  simp [Region.flip]

@[simp] theorem ScreenWork.flip_flip (w : ScreenWork) : w.flip.flip = w := by
  simp [ScreenWork.flip]

theorem withCols_eq (g : Region) (cols : List Nat) : withCols g cols = (withRows g.flip cols).flip := by
  simp only [withCols, withRows, Region.flip, List.filter_map, map_flip_flip]
  rfl

theorem condemned_flip (g : Region) : (condemned g).flip = condemned g.flip := rfl

theorem forcedCols_eq (g : Region) (ahead : List (Nat × Nat)) :
    forcedCols g ahead = forcedRows g.flip (ahead.map Prod.swap) := by
  simp only [forcedCols, forcedRows, Region.flip, List.map_map]
  rfl

theorem ScreenWork.positions_flip (w : ScreenWork) : w.flip.positions = w.positions.map Prod.swap := by
  simp only [positions, flip, Region.flip, List.map_append, List.map_map]
  cases w.extra <;> rfl

theorem ScreenWork.rowCount_flip (w : ScreenWork) (c : Nat) : w.flip.rowCount c = w.colCount c := by
  rw [rowCount, colCount, positions_flip, List.filter_map, List.length_map]
  rfl

theorem ScreenWork.assignCol_eq (w : ScreenWork) (c : Nat) : w.assignCol c = (w.flip.assignRow c).flip := by
  simp only [assignCol, assignRow, flip, Region.flip, List.filter_map, map_flip_flip, ScreenWork.mk.injEq]
  refine ⟨rfl, ?_⟩
  cases w.extra with
  | none => rfl
  | some p =>
    by_cases same : p.2 = c <;> simp [Option.filter, same]

theorem ScreenWork.scanCols_eq (todo : List Nat) (w : ScreenWork) : scanCols todo w = (scanRows todo w.flip).flip := by
  induction todo generalizing w with
  | nil => exact w.flip_flip.symm
  | cons c rest ih =>
    rw [scanCols, scanRows, rowCount_flip]
    show (if w.region.srRem < w.colCount c then if w.region.scRem = 0 then _ else _ else _)
      = ScreenWork.flip (if w.region.srRem < w.colCount c then if w.region.scRem = 0 then _ else _ else _)
    split
    · split
      · exact congrArg (fun v : ScreenWork => { v with region := v.region.condemn }) w.flip_flip.symm
      · rw [ih, assignCol_eq, flip_flip]
    · exact ih w

/-! ### The row scan -/

theorem filter_all {α : Type} (o : Option α) : o.filter (fun _ => true) = o := by cases o <;> rfl

theorem list_filter_all {α : Type} (l : List α) : l.filter (fun _ => true) = l := List.filter_eq_self.mpr fun _ _ => rfl

theorem withRows_nil (g : Region) : withRows g [] = g := by simp [withRows, list_filter_all]

theorem ScreenWork.rowCount_eq (w : ScreenWork) (r : Nat) : w.rowCount r = (w.positions.map Prod.fst).count r := by
  rw [rowCount, List.count_eq_countP, List.countP_map, List.countP_eq_length_filter]
  congr 2

/-- The cells of another row are counted as before once a row has been assigned. -/
theorem ScreenWork.rowCount_assignRow {w : ScreenWork} {r q : Nat} (other : q ≠ r) :
    (w.assignRow r).rowCount q = w.rowCount q := by
  have kept (p : Nat × Nat) (h : p.1 = q) : p.1 ≠ r := by rw [h]; exact other
  have positions : (w.assignRow r).positions = w.positions.filter fun p => decide (p.1 ≠ r) := by
    simp only [ScreenWork.positions, assignRow, List.filter_append, List.filter_map]
    congr 1
    cases w.extra with
    | none => rfl
    | some p => by_cases same : p.1 = r <;> simp [Option.filter, same]
  rw [rowCount, rowCount, positions, List.filter_filter]
  congr 1
  refine List.filter_congr fun p _ => ?_
  by_cases h : p.1 = q
  · simp [h, other]
  · simp [h]

theorem withRows_cons (w : ScreenWork) (r : Nat) (rest : List Nat) :
    withRows (w.assignRow r).region rest = withRows w.region (r :: rest) := by
  simp only [withRows, ScreenWork.assignRow, List.filter_filter, List.length_cons, List.append_assoc, List.singleton_append,
    Bool.true_or, List.isEmpty_cons, Bool.not_false, Bool.or_true, Region.mk.injEq, true_and, and_true]
  refine ⟨by omega, List.filter_congr fun x _ => ?_⟩
  simp [Bool.and_comm]

/-- The rows of a scan that it finds forced. -/
def ScreenWork.forced (w : ScreenWork) (todo : List Nat) : List Nat :=
  todo.filter fun r => decide (w.region.scRem < w.rowCount r)

/-- A row scan assigns the forced rows in order while spare rows last, and finds the region UNREPAIRABLE at the first that finds
none (R114, R115). -/
theorem ScreenWork.scanRows_eq {todo : List Nat} (distinct : todo.Nodup) (w : ScreenWork) : scanRows todo w =
    if (w.forced todo).length ≤ w.region.srRem then
      ⟨withRows w.region (w.forced todo), w.extra.filter fun p => p.1 ∉ w.forced todo⟩
    else
      ⟨condemned (withRows w.region ((w.forced todo).take w.region.srRem)),
        w.extra.filter fun p => p.1 ∉ (w.forced todo).take w.region.srRem⟩ := by
  induction todo generalizing w with
  | nil => simp [scanRows, forced, withRows_nil, filter_all]
  | cons r rest ih =>
    obtain ⟨fresh, distinct⟩ := List.nodup_cons.mp distinct
    rw [scanRows]
    split
    · rename_i more
      have head : w.forced (r :: rest) = r :: w.forced rest := List.filter_cons_of_pos (by simpa using more)
      split
      · rename_i spent
        rw [head, if_neg (by simp [spent]), spent, List.take_zero, withRows_nil]
        simp [Region.condemn_eq, filter_all]
      · rename_i left
        have same : (w.assignRow r).forced rest = w.forced rest := by
          refine List.filter_congr fun q hq => ?_
          rw [rowCount_assignRow (by rintro rfl; exact fresh hq)]
          rfl
        have spare : (w.assignRow r).region.srRem = w.region.srRem - 1 := rfl
        have extra (rows : List Nat) : (w.assignRow r).extra.filter (fun p => p.1 ∉ rows)
            = w.extra.filter fun p => p.1 ∉ r :: rows := by
          show (w.extra.filter fun p => p.1 ≠ r).filter (fun p => p.1 ∉ rows) = _
          cases w.extra with
          | none => rfl
          | some p => by_cases gone : p.1 = r <;> simp [Option.filter, gone]
        rw [ih distinct, same, head, spare]
        have bound : (w.forced rest).length ≤ w.region.srRem - 1 ↔ (r :: w.forced rest).length ≤ w.region.srRem := by
          rw [List.length_cons]; omega
        have take : (r :: w.forced rest).take w.region.srRem = r :: (w.forced rest).take (w.region.srRem - 1) := by
          obtain ⟨n, hn⟩ := Nat.exists_eq_succ_of_ne_zero left
          rw [hn]; rfl
        simp only [bound, take, withRows_cons, extra]
    · rename_i few
      have head : w.forced (r :: rest) = w.forced rest := List.filter_cons_of_neg (by simpa using few)
      rw [ih distinct, head]

theorem toList_filter {α : Type} (o : Option α) (p : α → Bool) : (o.filter p).toList = o.toList.filter p := by
  cases o with
  | none => rfl
  | some a => by_cases h : p a <;> simp [Option.filter, h]

theorem ScreenWork.positions_rows (w : ScreenWork) :
    w.positions.map Prod.fst = w.region.cells.map Cell.row ++ w.extra.toList.map Prod.fst := by
  rw [positions, List.map_append, List.map_map]
  rfl

theorem ScreenWork.forced_distinct (w : ScreenWork) :
    w.forced (distinctAsc (w.positions.map Prod.fst)) = forcedRows w.region w.extra.toList := by
  rw [forcedRows, ← positions_rows, linesOver_eq, forced]
  exact List.filter_congr fun r _ => by rw [rowCount_eq]

/-- The row scan of a pass (R114). -/
theorem ScreenWork.rowScan_eq (w : ScreenWork) : w.rowScan =
    if (forcedRows w.region w.extra.toList).length ≤ w.region.srRem then
      ⟨withRows w.region (forcedRows w.region w.extra.toList),
        w.extra.filter fun p => p.1 ∉ forcedRows w.region w.extra.toList⟩
    else
      ⟨condemned (withRows w.region ((forcedRows w.region w.extra.toList).take w.region.srRem)),
        w.extra.filter fun p => p.1 ∉ (forcedRows w.region w.extra.toList).take w.region.srRem⟩ := by
  rw [rowScan, scanRows_eq (distinctAsc_nodup _), forced_distinct]

theorem ScreenWork.colScan_flip (w : ScreenWork) : w.colScan = w.flip.rowScan.flip := by
  rw [colScan, rowScan, scanCols_eq, positions_flip, List.map_map]
  rfl

/-- The column scan of a pass (R115). -/
theorem ScreenWork.colScan_eq (w : ScreenWork) : w.colScan =
    if (forcedCols w.region w.extra.toList).length ≤ w.region.scRem then
      ⟨withCols w.region (forcedCols w.region w.extra.toList),
        w.extra.filter fun p => p.2 ∉ forcedCols w.region w.extra.toList⟩
    else
      ⟨condemned (withCols w.region ((forcedCols w.region w.extra.toList).take w.region.scRem)),
        w.extra.filter fun p => p.2 ∉ (forcedCols w.region w.extra.toList).take w.region.scRem⟩ := by
  have forced : forcedRows w.flip.region w.flip.extra.toList = forcedCols w.region w.extra.toList := by
    rw [forcedCols_eq]
    cases w with | mk g extra => cases extra <;> rfl
  have extra (cols : List Nat) : ((w.flip.extra.filter fun p => p.1 ∉ cols).map Prod.swap)
      = w.extra.filter fun p => p.2 ∉ cols := by
    cases w with
    | mk g extra =>
      cases extra with
      | none => rfl
      | some p => by_cases h : p.2 ∈ cols <;> simp [flip, Option.filter, h]
  rw [colScan_flip, rowScan_eq, forced]
  show ScreenWork.flip (if _ ≤ w.region.scRem then _ else _) = _
  split
  · rw [withCols_eq]
    exact congrArg (ScreenWork.mk _) (extra _)
  · rw [withCols_eq, ← condemned_flip]
    exact congrArg (ScreenWork.mk _) (extra _)

/-! ### The passes -/

theorem boundCheck_condemned (g : Region) : (condemned g).boundCheck = condemned g := by
  simp [Region.boundCheck, condemned]

/-- The passes with enough fuel, and the bound check, follow the rules of `Screened` (R113 to R117). -/
theorem ScreenWork.screened_passes (fuel : Nat) (w : ScreenWork) (live : w.region.state ≠ .unrepairable)
    (enough : w.region.srRem + w.region.scRem < fuel) :
    Screened w.region w.extra.toList (passes fuel w).region.boundCheck := by
  induction fuel generalizing w with
  | zero => omega
  | succ fuel ih =>
    generalize rowsEq : forcedRows w.region w.extra.toList = rows at *
    rw [passes]
    by_cases spent : w.region.srRem < rows.length
    · have scan := w.rowScan_eq
      rw [rowsEq, if_neg (Nat.not_le.mpr spent)] at scan
      have dead : w.rowScan.dead = true := by rw [scan]; rfl
      have passed : w.pass = w.rowScan := if_pos dead
      rw [passed, dead, Bool.true_or, if_pos rfl, scan, boundCheck_condemned, ← rowsEq]
      exact .rowsSpent _ _ (rowsEq ▸ spent)
    · have scan := w.rowScan_eq
      rw [rowsEq, if_pos (Nat.not_lt.mp spent)] at scan
      generalize colsEq : forcedCols (withRows w.region rows) ((w.extra.filter fun p => p.1 ∉ rows).toList) = cols
      have colScan := w.rowScan.colScan_eq
      have dead : w.rowScan.dead = false := by rw [scan]; simp [ScreenWork.dead, withRows, live]
      have passed : w.pass = w.rowScan.colScan := if_neg (by rw [dead]; exact Bool.false_ne_true)
      rw [passed]
      rw [scan] at colScan ⊢
      simp only [colsEq] at colScan
      have left : (w.extra.filter fun p => p.1 ∉ rows).toList
          = w.extra.toList.filter fun p => decide (p.1 ∉ forcedRows w.region w.extra.toList) := by
        rw [toList_filter, rowsEq]
      by_cases colsSpent : (withRows w.region rows).scRem < cols.length
      · rw [if_neg (Nat.not_le.mpr colsSpent)] at colScan
        rw [colScan]
        have dead : ScreenWork.dead ⟨condemned (withCols (withRows w.region rows) (cols.take (withRows w.region rows).scRem)),
          ((w.extra.filter fun p => p.1 ∉ rows).filter fun p => p.2 ∉ cols.take (withRows w.region rows).scRem)⟩ = true := rfl
        rw [dead, Bool.true_or, if_pos rfl, boundCheck_condemned, ← colsEq]
        exact .colsSpent _ _ _ _ (rowsEq ▸ Nat.not_lt.mp spent) (by rw [rowsEq]) left (by rw [colsEq]; exact colsSpent)
      · rw [if_pos (Nat.not_lt.mp colsSpent)] at colScan
        rw [colScan]
        have dead : ScreenWork.dead ⟨withCols (withRows w.region rows) cols,
            (w.extra.filter fun p => p.1 ∉ rows).filter fun p => p.2 ∉ cols⟩ = false := by
          simp [ScreenWork.dead, withCols, withRows, live]
        simp only [dead, Bool.false_or]
        by_cases none : rows = [] ∧ cols = []
        · obtain ⟨noRows, noCols⟩ := none
          subst noRows noCols
          have still : withCols (withRows w.region []) [] = w.region := by rw [withRows_nil]; simp [withCols, list_filter_all]
          simp only [still, ScreenWork.assigned, beq_self_eq_true, if_true]
          have whole : w.extra.toList.filter (fun p => decide (p.1 ∉ ([] : List Nat))) = w.extra.toList := by simp
          have settled := Screened.settled w.region w.extra.toList rowsEq (by
            rw [withRows_nil, toList_filter, whole] at colsEq; exact colsEq)
          unfold Region.boundCheck
          simpa [live, Region.condemn_eq] using settled
        · have assigned : 0 < rows.length + cols.length := by
            refine Classical.byContradiction fun zero => ?_
            exact none ⟨List.eq_nil_of_length_eq_zero (by omega), List.eq_nil_of_length_eq_zero (by omega)⟩
          have more : (ScreenWork.assigned ⟨withCols (withRows w.region rows) cols,
              (w.extra.filter fun p => p.1 ∉ rows).filter fun p => p.2 ∉ cols⟩ == w.assigned) = false := by
            simp only [ScreenWork.assigned, withCols, withRows, List.length_append, beq_eq_false_iff_ne, ne_eq]
            omega
          simp only [more, Bool.false_eq_true, if_false]
          have next := ih ⟨withCols (withRows w.region rows) cols,
            (w.extra.filter fun p => p.1 ∉ rows).filter fun p => p.2 ∉ cols⟩ live (by
              simp only [withCols, withRows] at colsSpent ⊢
              omega)
          rw [toList_filter] at next
          refine .again _ _ _ _ _ (rowsEq ▸ Nat.not_lt.mp spent) (by rw [rowsEq]) left
            (by rw [colsEq]; exact Nat.not_lt.mp colsSpent) ?_ ?_
          · rw [rowsEq, colsEq]
            refine Classical.byContradiction fun both => ?_
            simp only [not_or, Classical.not_not] at both
            exact none both
          · rw [colsEq]
            exact next

theorem screened_screen (g : Region) (extra : Option (Nat × Nat)) (live : g.state ≠ .unrepairable) :
    Screened g extra.toList (g.screen extra) :=
  ScreenWork.screened_passes _ ⟨g, extra⟩ live (Nat.lt_succ_self _)

/-! ### Fail cell events -/

theorem sat32_one (n : Nat) : sat32 n 1 = oneMore n := rfl

theorem takeEvent_ignored {g : Region} (r c : Nat) (dead : g.state = .unrepairable) :
    g.takeEvent r c = { g with ignored := oneMore g.ignored } := if_pos dead

theorem takeEvent_covered {g : Region} {r c : Nat} (live : g.state ≠ .unrepairable) (line : r ∈ g.rows ∨ c ∈ g.cols) :
    g.takeEvent r c = { g with covered := oneMore g.covered } := by
  rw [Region.takeEvent, if_neg live, if_pos line]
  rfl

theorem any_position {g : Region} {r c : Nat} : g.cells.any (fun x => decide (x.row = r ∧ x.col = c)) = true
    ↔ (r, c) ∈ g.cells.map fun x => (x.row, x.col) := by
  simp [List.any_eq_true]

theorem takeEvent_repeated {g : Region} {r c : Nat} (live : g.state ≠ .unrepairable) (row : r ∉ g.rows) (col : c ∉ g.cols)
    (stored : (r, c) ∈ g.cells.map fun x => (x.row, x.col)) : g.takeEvent r c = g.hit r c := by
  rw [Region.takeEvent, if_neg live, if_neg (by grind), if_pos (any_position.mpr stored)]

/-- A region that takes a new cell into its list: CLEAN becomes TRACKING (R112). -/
def Region.grown (g : Region) (r c : Nat) : Region :=
  { g with
    cells := g.cells ++ [⟨r, c, 1⟩], state := .tracking,
    summaryPending := g.summaryPending || decide (g.state = .clean) }

theorem Region.append_eq {g : Region} (live : g.state ≠ .unrepairable) (r c : Nat) : g.append r c = g.grown r c := by
  unfold Region.append Region.grown
  cases h : g.state <;> simp_all

theorem lookAhead_iff {g : Region} {r c : Nat} : g.lookAhead r c = true
    ↔ g.scRem < (g.cells.map Cell.row).count r + 1 ∨ g.srRem < (g.cells.map Cell.col).count c + 1 := by
  have cols : (ScreenWork.mk g none).colCount c = (g.cells.map Cell.col).count c := by
    rw [← ScreenWork.rowCount_flip, ScreenWork.rowCount_eq, ScreenWork.positions_rows]
    simp [ScreenWork.flip, Region.flip, Function.comp_def, Cell.flip]
  rw [Region.lookAhead, Bool.or_eq_true, decide_eq_true_eq, decide_eq_true_eq, cols, ScreenWork.rowCount_eq,
    ScreenWork.positions_rows]
  simp

/-- A new cell outside the assigned lines: appended, looked ahead at, or the region's end (R111, R112). -/
theorem takeEvent_new {g : Region} {r c : Nat} (live : g.state ≠ .unrepairable) (row : r ∉ g.rows) (col : c ∉ g.cols)
    (fresh : (r, c) ∉ g.cells.map fun x => (x.row, x.col)) : g.takeEvent r c =
      if g.cells.length < 32 then (g.grown r c).screen none
      else if g.lookAhead r c then g.screen (some (r, c))
      else condemned g := by
  rw [Region.takeEvent, if_neg live, if_neg (by grind), if_neg (fun h => fresh (any_position.mp h)), Region.append_eq live,
    Region.condemn_eq]

theorem hit_eq {g : Region} {r c hits : Nat} {before after : List Cell} (cells : g.cells = before ++ ⟨r, c, hits⟩ :: after)
    (distinct : (g.cells.map fun x => (x.row, x.col)).Nodup) :
    g.hit r c = { g with cells := before ++ ⟨r, c, min (hits + 1) 255⟩ :: after } := by
  rw [cells, List.map_append, List.map_cons, List.nodup_append, List.nodup_cons] at distinct
  obtain ⟨-, ⟨notAfter, -⟩, apart⟩ := distinct
  have other {x : Cell} (h : (x.row, x.col) ≠ (r, c)) :
      (if x.row = r ∧ x.col = c then { x with hits := min (x.hits + 1) 255 } else x) = x :=
    if_neg fun same => h (by rw [same.1, same.2])
  rw [Region.hit, cells]
  congr 1
  rw [List.map_append, List.map_cons, if_pos ⟨rfl, rfl⟩]
  congr 1
  · exact (List.map_congr_left fun x hx => other (apart _ (List.mem_map_of_mem hx) _ List.mem_cons_self)).trans (List.map_id _)
  · congr 1
    refine (List.map_congr_left fun x hx => other fun same => notAfter ?_).trans (List.map_id _)
    rw [← same]
    exact List.mem_map_of_mem hx

/-- Settles O49: each clause is one branch of `takeEvent`, and the passes are those of `Screened`. -/
theorem regionsTakeFailCellEvents : Obligations.RegionsTakeFailCellEvents := by
  intro g r c
  refine ⟨takeEvent_ignored r c, takeEvent_covered, fun before after hits live row col cells distinct => ?_,
    fun live row col fresh => ⟨fun room => ?_, fun full over_ => ?_, fun full inRow inCol => ?_⟩⟩
  · have stored : (r, c) ∈ g.cells.map fun x => (x.row, x.col) := by rw [cells]; simp
    rw [takeEvent_repeated live row col stored, hit_eq cells distinct]
  · rw [takeEvent_new live row col fresh, if_pos room]
    exact screened_screen (g.grown r c) none (by simp [Region.grown])
  · rw [takeEvent_new live row col fresh, if_neg (Nat.not_lt.mpr full), if_pos (lookAhead_iff.mpr over_)]
    exact screened_screen g (some (r, c)) live
  · rw [takeEvent_new live row col fresh, if_neg (Nat.not_lt.mpr full), if_neg]
    rw [lookAhead_iff]
    omega

end Sys2Proof.Machine
end

section
/-! What a region keeps at every fail cell event, and why a region that the screen condemns cannot be repaired (R104 to R118). -/
namespace Sys2Proof.Machine

open Sys2Proof.Safety

variable {sr sc : Nat} {g h : Region} {ahead : List (Nat × Nat)}

/-- The positions of a region's cells. -/
def Region.positions (g : Region) : List (Nat × Nat) := g.cells.map fun x => (x.row, x.col)

/-! ### A region in its passes -/

/-- A TRACKING region in its passes, with the look-ahead cells still counted: the spare accounting, the cell bound, and no position
that is repeated or in an assigned line (R113, R115). -/
structure Working (sr sc : Nat) (g : Region) (ahead : List (Nat × Nat)) : Prop where
  rows : g.rows.length + g.srRem = sr
  cols : g.cols.length + g.scRem = sc
  room : g.cells.length ≤ 32
  distinct : (g.positions ++ ahead).Nodup
  rowsDistinct : g.rows.Nodup
  colsDistinct : g.cols.Nodup
  outside : ∀ p ∈ g.positions ++ ahead, p.1 ∉ g.rows ∧ p.2 ∉ g.cols
  tracking : g.state = .tracking

theorem Region.positions_flip (g : Region) : g.flip.positions = g.positions.map Prod.swap := by
  simp only [positions, flip, List.map_map]
  rfl

theorem nodup_map_of_mem {α β : Type} {f : α → β} {l : List α} (distinct : l.Nodup)
    (apart : ∀ x ∈ l, ∀ y ∈ l, f x = f y → x = y) : (l.map f).Nodup :=
  List.pairwise_map.mpr (distinct.imp_of_mem fun hx hy other same => other (apart _ hx _ hy same))

theorem nodup_single {α : Type} (x : α) : [x].Nodup := List.nodup_cons.mpr ⟨List.not_mem_nil, .nil⟩

/-- Columns left out of positions seen the other way round. -/
theorem swapped_filter (cols : List Nat) (l : List (Nat × Nat)) :
    ((l.map Prod.swap).filter fun p => decide (p.1 ∉ cols)).map Prod.swap = l.filter fun p => decide (p.2 ∉ cols) := by
  rw [List.filter_map, List.map_map]
  exact List.map_id _

theorem Working.flip (w : Working sr sc g ahead) : Working sc sr g.flip (ahead.map Prod.swap) := by
  have positions : g.flip.positions ++ ahead.map Prod.swap = (g.positions ++ ahead).map Prod.swap := by
    rw [Region.positions_flip, List.map_append]
  refine ⟨w.cols, w.rows, by simpa [Region.flip] using w.room, ?_, w.colsDistinct, w.rowsDistinct, ?_, w.tracking⟩
  · rw [positions]
    exact nodup_map_of_mem w.distinct fun p _ q _ same => Prod.ext (Prod.ext_iff.mp same).2 (Prod.ext_iff.mp same).1
  · rw [positions]
    intro p hp
    obtain ⟨q, hq, rfl⟩ := List.mem_map.mp hp
    exact (w.outside q hq).symm

theorem mem_forcedRows {r : Nat} : r ∈ forcedRows g ahead ↔ g.scRem < ((g.positions ++ ahead).map Prod.fst).count r := by
  rw [forcedRows, mem_linesOver, Region.positions, List.map_append, List.map_map]
  rfl

theorem mem_forcedCols {c : Nat} : c ∈ forcedCols g ahead ↔ g.srRem < ((g.positions ++ ahead).map Prod.snd).count c := by
  rw [forcedCols, mem_linesOver, Region.positions, List.map_append, List.map_map]
  rfl

/-- A forced row has a cell, and so none of the assigned rows is forced. -/
theorem Working.forced_fresh (w : Working sr sc g ahead) {r : Nat} (forced : r ∈ forcedRows g ahead) : r ∉ g.rows := by
  have present : r ∈ (g.positions ++ ahead).map Prod.fst :=
    List.count_pos_iff.mp (Nat.lt_of_le_of_lt (Nat.zero_le _) (mem_forcedRows.mp forced))
  obtain ⟨p, hp, rfl⟩ := List.mem_map.mp present
  exact (w.outside p hp).1

theorem positions_withRows (rows : List Nat) : (withRows g rows).positions ++ ahead.filter (fun p => decide (p.1 ∉ rows))
    = (g.positions ++ ahead).filter fun p => decide (p.1 ∉ rows) := by
  rw [List.filter_append, Region.positions, Region.positions, List.filter_map]
  rfl

/-- Some forced rows assigned, as many as there are spares for. -/
theorem Working.withRows (w : Working sr sc g ahead) {rows : List Nat} (distinct : rows.Nodup) (forced : rows ⊆ forcedRows g ahead)
    (few : rows.length ≤ g.srRem) : Working sr sc (withRows g rows) (ahead.filter fun p => decide (p.1 ∉ rows)) := by
  refine ⟨?_, w.cols, Nat.le_trans (List.length_filter_le _ _) w.room, ?_, ?_, w.colsDistinct, ?_, w.tracking⟩
  · have used := w.rows
    simp only [Safety.withRows, List.length_append]
    omega
  · rw [positions_withRows]
    exact w.distinct.filter _
  · refine List.nodup_append.mpr ⟨w.rowsDistinct, distinct, fun a ha b hb same => ?_⟩
    subst same
    exact w.forced_fresh (forced hb) ha
  · rw [positions_withRows]
    intro p hp
    obtain ⟨stored, other⟩ := List.mem_filter.mp hp
    obtain ⟨row, col⟩ := w.outside p stored
    refine ⟨fun assigned => ?_, col⟩
    rcases List.mem_append.mp assigned with old | new
    · exact row old
    · simp [new] at other

/-- The same for columns. -/
theorem Working.withCols (w : Working sr sc g ahead) {cols : List Nat} (distinct : cols.Nodup) (forced : cols ⊆ forcedCols g ahead)
    (few : cols.length ≤ g.scRem) : Working sr sc (withCols g cols) (ahead.filter fun p => decide (p.2 ∉ cols)) := by
  rw [forcedCols_eq] at forced
  have flipped := (w.flip.withRows distinct forced few).flip
  rw [withCols_eq]
  rw [swapped_filter] at flipped
  exact flipped

theorem forcedRows_nodup (g : Region) (ahead : List (Nat × Nat)) : (forcedRows g ahead).Nodup := linesOver_nodup _ _

theorem forcedCols_nodup (g : Region) (ahead : List (Nat × Nat)) : (forcedCols g ahead).Nodup := linesOver_nodup _ _

/-! ### Regions stay sound -/

/-- A region that becomes UNREPAIRABLE keeps its accounting and its cells (R117). -/
theorem Working.sound_condemned (w : Working sr sc g ahead) : RegionSound sr sc (condemned g) :=
  ⟨w.rows, w.cols, w.room, (List.nodup_append.mp w.distinct).1, w.rowsDistinct, w.colsDistinct, nofun,
    fun live => absurd rfl live⟩

theorem count_row (cells : List Cell) (r : Nat) :
    (cells.filter fun y => y.row = r).length = ((cells.map fun x => (x.row, x.col)).map Prod.fst).count r := by
  rw [List.map_map, List.count_eq_countP, List.countP_map, List.countP_eq_length_filter]
  rfl

theorem count_col (cells : List Cell) (c : Nat) :
    (cells.filter fun y => y.col = c).length = ((cells.map fun x => (x.row, x.col)).map Prod.snd).count c := by
  rw [List.map_map, List.count_eq_countP, List.countP_map, List.countP_eq_length_filter]
  rfl

/-- Where no row is forced, no row has more cells than spare columns are left. -/
theorem row_limit (none : forcedRows g ahead = []) (r : Nat) : (g.positions.map Prod.fst).count r ≤ g.scRem := by
  refine Classical.byContradiction fun more => ?_
  have forced : r ∈ forcedRows g ahead := by
    rw [mem_forcedRows, List.map_append, List.count_append]
    omega
  rw [none] at forced
  cases forced

theorem col_limit (none : forcedCols g ahead = []) (c : Nat) : (g.positions.map Prod.snd).count c ≤ g.srRem := by
  refine Classical.byContradiction fun more => ?_
  have forced : c ∈ forcedCols g ahead := by
    rw [mem_forcedCols, List.map_append, List.count_append]
    omega
  rw [none] at forced
  cases forced

/-- The passes and the bound check leave a sound region (R113 to R117). -/
theorem Working.sound (w : Working sr sc g ahead) (screened : Screened g ahead h) : RegionSound sr sc h := by
  induction screened with
  | rowsSpent g ahead spent =>
    refine (w.withRows ((forcedRows_nodup g ahead).sublist (List.take_sublist _ _)) (List.take_subset _ _) ?_).sound_condemned
    rw [List.length_take]
    exact Nat.min_le_left _ _
  | colsSpent g k ahead left few assigned rest spent =>
    subst assigned rest
    have rows := w.withRows (forcedRows_nodup g ahead) (List.Subset.refl _) few
    refine (rows.withCols ((forcedCols_nodup _ _).sublist (List.take_sublist _ _)) (List.take_subset _ _) ?_).sound_condemned
    rw [List.length_take]
    exact Nat.min_le_left _ _
  | again g k l ahead left few assigned rest fewCols _ _ ih =>
    subst assigned rest
    exact ih ((w.withRows (forcedRows_nodup g ahead) (List.Subset.refl _) few).withCols (forcedCols_nodup _ _)
      (List.Subset.refl _) fewCols)
  | settled g ahead noRows noCols =>
    split
    · exact w.sound_condemned
    · rename_i bound
      refine ⟨w.rows, w.cols, w.room, (List.nodup_append.mp w.distinct).1, w.rowsDistinct, w.colsDistinct,
        fun clean => ?_, fun _ => ⟨Nat.not_lt.mp bound, fun x hx => ?_, fun x _ => ?_, fun x _ => ?_⟩⟩
      · rw [w.tracking] at clean
        cases clean
      · exact w.outside (x.row, x.col) (List.mem_append_left _ (List.mem_map_of_mem hx))
      · rw [count_row]
        exact row_limit noRows x.row
      · rw [count_col]
        exact col_limit noCols x.col

/-- A sound region and a new cell outside its assigned lines, taken into the list (R112). -/
theorem working_grown (sound : RegionSound sr sc g) (live : g.state ≠ .unrepairable) {r c : Nat} (row : r ∉ g.rows)
    (col : c ∉ g.cols) (fresh : (r, c) ∉ g.positions) (room : g.cells.length < 32) :
    Working sr sc (g.grown r c) [] := by
  obtain ⟨rows, cols, -, distinct, rowsDistinct, colsDistinct, -, rest⟩ := sound
  obtain ⟨-, outside, -, -⟩ := rest live
  have positions : (g.grown r c).positions ++ [] = g.positions ++ [(r, c)] := by simp [Region.positions, Region.grown]
  refine ⟨rows, cols, by simp [Region.grown]; omega, ?_, rowsDistinct, colsDistinct, ?_, rfl⟩
  · rw [positions]
    refine List.nodup_append.mpr ⟨distinct, nodup_single _, fun a ha b hb same => fresh ?_⟩
    rw [← List.mem_singleton.mp hb, ← same]
    exact ha
  · rw [positions]
    intro p hp
    rcases List.mem_append.mp hp with old | new
    · obtain ⟨x, hx, rfl⟩ := List.mem_map.mp old
      exact outside x hx
    · rw [List.mem_singleton.mp new]
      exact ⟨row, col⟩

/-- The same cell looked ahead at, the list being full (R111). -/
theorem working_ahead (sound : RegionSound sr sc g) (live : g.state ≠ .unrepairable) {r c : Nat} (row : r ∉ g.rows)
    (col : c ∉ g.cols) (fresh : (r, c) ∉ g.positions) (full : 32 ≤ g.cells.length) : Working sr sc g [(r, c)] := by
  obtain ⟨rows, cols, room, distinct, rowsDistinct, colsDistinct, clean, rest⟩ := sound
  obtain ⟨-, outside, -, -⟩ := rest live
  refine ⟨rows, cols, room, ?_, rowsDistinct, colsDistinct, fun p hp => ?_, ?_⟩
  · refine List.nodup_append.mpr ⟨distinct, nodup_single _, fun a ha b hb same => fresh ?_⟩
    rw [← List.mem_singleton.mp hb, ← same]
    exact ha
  · rcases List.mem_append.mp hp with old | new
    · obtain ⟨x, hx, rfl⟩ := List.mem_map.mp old
      exact outside x hx
    · rw [List.mem_singleton.mp new]
      exact ⟨row, col⟩
  · cases state : g.state with
    | clean => simp [(clean state).1] at full
    | tracking => rfl
    | unrepairable => exact absurd state live

/-- What a fail cell event does to a sound region, the rules of the passes applied (R108 to R118). -/
inductive Taken (sr sc : Nat) (g : Region) (r c : Nat) : Region → Prop
  | ignored : g.state = .unrepairable → Taken sr sc g r c { g with ignored := oneMore g.ignored }
  | covered : Taken sr sc g r c { g with covered := oneMore g.covered }
  | repeated : g.state ≠ .unrepairable → Taken sr sc g r c (g.hit r c)
  | stored {h : Region} : Working sr sc (g.grown r c) [] → Screened (g.grown r c) [] h → Taken sr sc g r c h
  | ahead {h : Region} : Working sr sc g [(r, c)] → Screened g [(r, c)] h → Taken sr sc g r c h
  | full : Working sr sc g [(r, c)] → g.state ≠ .unrepairable → 32 ≤ g.cells.length →
      (g.cells.map Cell.row).count r + 1 ≤ g.scRem → (g.cells.map Cell.col).count c + 1 ≤ g.srRem →
      Taken sr sc g r c (condemned g)

theorem taken_takeEvent (sound : RegionSound sr sc g) (r c : Nat) : Taken sr sc g r c (g.takeEvent r c) := by
  by_cases dead : g.state = .unrepairable
  · rw [takeEvent_ignored r c dead]
    exact .ignored dead
  by_cases line : r ∈ g.rows ∨ c ∈ g.cols
  · rw [takeEvent_covered dead line]
    exact .covered
  obtain ⟨row, col⟩ := not_or.mp line
  by_cases stored : (r, c) ∈ g.cells.map fun x => (x.row, x.col)
  · rw [takeEvent_repeated dead row col stored]
    exact .repeated dead
  rw [takeEvent_new dead row col stored]
  by_cases room : g.cells.length < 32
  · rw [if_pos room]
    exact .stored (working_grown sound dead row col stored room) (screened_screen _ none (by simp [Region.grown]))
  rw [if_neg room]
  have full := Nat.not_lt.mp room
  by_cases more : g.lookAhead r c = true
  · rw [if_pos more]
    exact .ahead (working_ahead sound dead row col stored full) (screened_screen _ (some (r, c)) dead)
  · rw [if_neg more]
    rw [lookAhead_iff] at more
    exact .full (working_ahead sound dead row col stored full) dead full (by omega) (by omega)

theorem Region.positions_hit (g : Region) (r c : Nat) : (g.hit r c).positions = g.positions := by
  rw [positions, positions, hit, List.map_map]
  refine List.map_congr_left fun x _ => ?_
  simp only [Function.comp_apply]
  split <;> rfl

/-- A duplicate hit leaves the positions, and with them what a region keeps. -/
theorem RegionSound.hit (sound : RegionSound sr sc g) (live : g.state ≠ .unrepairable) (r c : Nat) :
    RegionSound sr sc (g.hit r c) := by
  obtain ⟨rows, cols, room, distinct, rowsDistinct, colsDistinct, clean, rest⟩ := sound
  obtain ⟨bound, outside, rowLimit, colLimit⟩ := rest live
  have length : (g.hit r c).cells.length = g.cells.length := List.length_map _
  have same {x : Cell} (hx : x ∈ (g.hit r c).cells) : ∃ y ∈ g.cells, y.row = x.row ∧ y.col = x.col := by
    have mem : (x.row, x.col) ∈ g.positions := by
      rw [← g.positions_hit r c]
      exact List.mem_map_of_mem hx
    obtain ⟨y, hy, eq⟩ := List.mem_map.mp mem
    exact ⟨y, hy, by simpa using eq⟩
  refine ⟨rows, cols, by rw [length]; exact room, ?_, rowsDistinct, colsDistinct, fun h => ?_, fun _ => ⟨?_, ?_, ?_, ?_⟩⟩
  · rw [show (g.hit r c).cells.map _ = (g.hit r c).positions from rfl, g.positions_hit]
    exact distinct
  · obtain ⟨noCells, lines⟩ := clean h
    exact ⟨by rw [Region.hit, noCells]; rfl, lines⟩
  · rw [length]; exact bound
  · intro x hx
    obtain ⟨y, hy, row, col⟩ := same hx
    rw [← row, ← col]
    exact outside y hy
  · intro x hx
    obtain ⟨y, hy, row, -⟩ := same hx
    rw [count_row, show (g.hit r c).cells.map _ = (g.hit r c).positions from rfl, g.positions_hit, ← row]
    exact Nat.le_trans (Nat.le_of_eq (count_row g.cells y.row).symm) (rowLimit y hy)
  · intro x hx
    obtain ⟨y, hy, -, col⟩ := same hx
    rw [count_col, show (g.hit r c).cells.map _ = (g.hit r c).positions from rfl, g.positions_hit, ← col]
    exact Nat.le_trans (Nat.le_of_eq (count_col g.cells y.col).symm) (colLimit y hy)

/-- Every fail cell event leaves a sound region (R104, R115, R116). -/
theorem regionSound_takeEvent (sound : RegionSound sr sc g) (r c : Nat) : RegionSound sr sc (g.takeEvent r c) := by
  have taken := taken_takeEvent sound r c
  generalize g.takeEvent r c = h at taken ⊢
  cases taken with
  | ignored | covered => exact sound
  | repeated live => exact RegionSound.hit sound live r c
  | stored working screened => exact working.sound screened
  | ahead working screened => exact working.sound screened
  | full working => exact working.sound_condemned

/-! ### Repairs -/

/-- Rows and columns, no more than the spares, that cover every cell of a region, the look-ahead cells among them, and that
contain the lines assigned so far. -/
structure Repairs (sr sc : Nat) (rows cols : List Nat) (g : Region) (ahead : List (Nat × Nat)) : Prop where
  fewRows : rows.length ≤ sr
  fewCols : cols.length ≤ sc
  assignedRows : ∀ r ∈ g.rows, r ∈ rows
  assignedCols : ∀ c ∈ g.cols, c ∈ cols
  covers : ∀ p ∈ g.positions ++ ahead, p.1 ∈ rows ∨ p.2 ∈ cols

variable {rows cols : List Nat}

theorem Repairs.flip (repairs : Repairs sr sc rows cols g ahead) : Repairs sc sr cols rows g.flip (ahead.map Prod.swap) := by
  refine ⟨repairs.fewCols, repairs.fewRows, repairs.assignedCols, repairs.assignedRows, fun p hp => ?_⟩
  rw [Region.positions_flip, ← List.map_append] at hp
  obtain ⟨q, hq, rfl⟩ := List.mem_map.mp hp
  exact (repairs.covers q hq).symm

/-- Distinct members of a list are no more than it has. -/
theorem length_le_of_members {l s : List Nat} (distinct : l.Nodup) (subset : ∀ x ∈ l, x ∈ s) : l.length ≤ s.length := by
  induction l generalizing s with
  | nil => exact Nat.zero_le _
  | cons x l ih =>
    obtain ⟨fresh, distinct⟩ := List.nodup_cons.mp distinct
    have here : x ∈ s := subset x List.mem_cons_self
    have rest := ih (s := s.erase x) distinct fun y hy =>
      (List.mem_erase_of_ne fun same : y = x => fresh (same ▸ hy)).mpr (subset y (List.mem_cons_of_mem _ hy))
    rw [List.length_erase_of_mem here] at rest
    have some := List.length_pos_of_mem here
    rw [List.length_cons]
    omega

theorem length_filter_add {α : Type} (p : α → Bool) (l : List α) :
    (l.filter p).length + (l.filter fun x => !p x).length = l.length := by
  induction l with
  | nil => rfl
  | cons x l ih =>
    cases h : p x with
    | true =>
      rw [List.filter_cons_of_pos h, List.filter_cons_of_neg (by rw [h]; exact Bool.false_ne_true), List.length_cons,
        List.length_cons]
      omega
    | false =>
      rw [List.filter_cons_of_neg (by rw [h]; exact Bool.false_ne_true), List.filter_cons_of_pos (by rw [h]; rfl),
        List.length_cons, List.length_cons]
      omega

/-- A row with more cells than spare columns are left is in every repair: else each of its cells would need a column (R114). -/
theorem Repairs.forced_row (repairs : Repairs sr sc rows cols g ahead) (w : Working sr sc g ahead) {r : Nat}
    (forced : r ∈ forcedRows g ahead) : r ∈ rows := by
  refine Classical.byContradiction fun out => ?_
  let inRow := (g.positions ++ ahead).filter fun p => decide (p.1 = r)
  have member {p : Nat × Nat} (hp : p ∈ inRow) : p ∈ g.positions ++ ahead ∧ p.1 = r :=
    ⟨(List.mem_filter.mp hp).1, of_decide_eq_true (List.mem_filter.mp hp).2⟩
  have distinct : (inRow.map Prod.snd).Nodup := by
    refine nodup_map_of_mem (w.distinct.filter _) fun p hp q hq same => Prod.ext ?_ same
    rw [(member hp).2, (member hq).2]
  have count : inRow.length = ((g.positions ++ ahead).map Prod.fst).count r := by
    rw [List.count_eq_countP, List.countP_map, List.countP_eq_length_filter]
    rfl
  have all : (g.cols ++ inRow.map Prod.snd).length ≤ cols.length := by
    refine length_le_of_members (List.nodup_append.mpr ⟨w.colsDistinct, distinct, fun a ha b hb same => ?_⟩) fun c hc => ?_
    · obtain ⟨p, hp, rfl⟩ := List.mem_map.mp hb
      exact (w.outside p (member hp).1).2 (same ▸ ha)
    · rcases List.mem_append.mp hc with old | new
      · exact repairs.assignedCols c old
      · obtain ⟨p, hp, rfl⟩ := List.mem_map.mp new
        refine (repairs.covers p (member hp).1).resolve_left ?_
        rw [(member hp).2]
        exact out
  rw [List.length_append, List.length_map, count] at all
  have more := mem_forcedRows.mp forced
  have used := w.cols
  have few := repairs.fewCols
  omega

/-- The forced rows are no more than the spare rows that are left. -/
theorem Repairs.forced_few (repairs : Repairs sr sc rows cols g ahead) (w : Working sr sc g ahead) :
    (forcedRows g ahead).length ≤ g.srRem := by
  have all : (g.rows ++ forcedRows g ahead).length ≤ rows.length := by
    refine length_le_of_members (List.nodup_append.mpr ⟨w.rowsDistinct, forcedRows_nodup _ _, fun a ha b hb same => ?_⟩) fun r hr => ?_
    · exact w.forced_fresh hb (same ▸ ha)
    · rcases List.mem_append.mp hr with old | new
      · exact repairs.assignedRows r old
      · exact repairs.forced_row w new
  rw [List.length_append] at all
  have used := w.rows
  have few := repairs.fewRows
  omega

theorem Repairs.withRows (repairs : Repairs sr sc rows cols g ahead) (w : Working sr sc g ahead) :
    Repairs sr sc rows cols (withRows g (forcedRows g ahead)) (ahead.filter fun p => decide (p.1 ∉ forcedRows g ahead)) := by
  refine ⟨repairs.fewRows, repairs.fewCols, fun r hr => ?_, repairs.assignedCols, fun p hp => ?_⟩
  · rcases List.mem_append.mp hr with old | new
    · exact repairs.assignedRows r old
    · exact repairs.forced_row w new
  · rw [positions_withRows] at hp
    exact repairs.covers p (List.mem_filter.mp hp).1

theorem Repairs.forced_few_cols (repairs : Repairs sr sc rows cols g ahead) (w : Working sr sc g ahead) :
    (forcedCols g ahead).length ≤ g.scRem := by
  rw [forcedCols_eq]
  exact repairs.flip.forced_few w.flip

theorem Repairs.withCols (repairs : Repairs sr sc rows cols g ahead) (w : Working sr sc g ahead) :
    Repairs sr sc rows cols (withCols g (forcedCols g ahead)) (ahead.filter fun p => decide (p.2 ∉ forcedCols g ahead)) := by
  have flipped := (repairs.flip.withRows w.flip).flip
  rw [← forcedCols_eq] at flipped
  rw [withCols_eq]
  rw [swapped_filter] at flipped
  exact flipped

theorem count_filter_le (f : Nat × Nat → Nat) (p : Nat × Nat → Bool) (l : List (Nat × Nat)) (b : Nat) :
    ((l.filter p).map f).count b ≤ (l.map f).count b := (List.filter_sublist.map f).count_le b

/-- Positions on some lines with few of them each are few. -/
theorem length_le_of_lines (f : Nat × Nat → Nat) {lines : List Nat} {l : List (Nat × Nat)} {limit : Nat}
    (on : ∀ p ∈ l, f p ∈ lines) (few : ∀ b ∈ lines, (l.map f).count b ≤ limit) : l.length ≤ limit * lines.length := by
  induction lines generalizing l with
  | nil =>
    cases l with
    | nil => exact Nat.zero_le _
    | cons p l => exact absurd (on p List.mem_cons_self) List.not_mem_nil
  | cons b lines ih =>
    have here : (l.filter fun p => f p == b).length ≤ limit := by
      have count := few b List.mem_cons_self
      rw [List.count_eq_countP, List.countP_map, List.countP_eq_length_filter] at count
      exact count
    have rest := ih (l := l.filter fun p => !(f p == b)) (fun p hp => by
        obtain ⟨mem, other⟩ := List.mem_filter.mp hp
        refine (List.mem_cons.mp (on p mem)).resolve_left fun same => ?_
        rw [same, beq_self_eq_true] at other
        cases other)
      fun c hc => Nat.le_trans (count_filter_le f _ l c) (few c (List.mem_cons_of_mem _ hc))
    rw [← length_filter_add (fun p => f p == b) l, List.length_cons, Nat.mul_add, Nat.mul_one]
    omega

/-- Positions covered by some rows with few of them each and some columns with few of them each are few (R116). -/
theorem length_le_of_covered {l : List (Nat × Nat)} {rowLimit colLimit : Nat}
    (covers : ∀ p ∈ l, p.1 ∈ rows ∨ p.2 ∈ cols) (inRow : ∀ r ∈ rows, (l.map Prod.fst).count r ≤ rowLimit)
    (inCol : ∀ c ∈ cols, (l.map Prod.snd).count c ≤ colLimit) :
    l.length ≤ rowLimit * rows.length + colLimit * cols.length := by
  have byRow : (l.filter fun p => decide (p.1 ∈ rows)).length ≤ rowLimit * rows.length :=
    length_le_of_lines Prod.fst (fun p hp => of_decide_eq_true (List.mem_filter.mp hp).2)
      fun r hr => Nat.le_trans (count_filter_le Prod.fst _ l r) (inRow r hr)
  have byCol : (l.filter fun p => !decide (p.1 ∈ rows)).length ≤ colLimit * cols.length := by
    refine length_le_of_lines Prod.snd (fun p hp => ?_) fun c hc => Nat.le_trans (count_filter_le Prod.snd _ l c) (inCol c hc)
    obtain ⟨mem, other⟩ := List.mem_filter.mp hp
    refine (covers p mem).resolve_left fun row => ?_
    rw [decide_eq_true row] at other
    cases other
  rw [← length_filter_add (fun p => decide (p.1 ∈ rows)) l]
  exact Nat.add_le_add byRow byCol

/-- The repair's lines that are not assigned yet are no more than the spares that are left. -/
theorem length_unassigned {lines assigned : List Nat} {spares left : Nat} (few : lines.length ≤ spares)
    (used : assigned.length + left = spares) (distinct : assigned.Nodup) (subset : ∀ r ∈ assigned, r ∈ lines) :
    (lines.filter fun r => !decide (r ∈ assigned)).length ≤ left := by
  have taken : assigned.length ≤ (lines.filter fun r => decide (r ∈ assigned)).length :=
    length_le_of_members distinct fun r hr => List.mem_filter.mpr ⟨subset r hr, decide_eq_true hr⟩
  have all := length_filter_add (fun r => decide (r ∈ assigned)) lines
  omega

/-- Positions outside the assigned lines that a repair covers, no line over its limit, are within the bound (R116). -/
theorem Repairs.within_bound (repairs : Repairs sr sc rows cols g ahead) (w : Working sr sc g ahead) {l : List (Nat × Nat)}
    (subset : l ⊆ g.positions ++ ahead) (inRow : ∀ r, (l.map Prod.fst).count r ≤ g.scRem)
    (inCol : ∀ c, (l.map Prod.snd).count c ≤ g.srRem) : l.length ≤ 2 * g.srRem * g.scRem := by
  have fewRows := length_unassigned repairs.fewRows w.rows w.rowsDistinct repairs.assignedRows
  have fewCols := length_unassigned repairs.fewCols w.cols w.colsDistinct repairs.assignedCols
  have bound := length_le_of_covered (rows := rows.filter fun r => !decide (r ∈ g.rows))
    (cols := cols.filter fun c => !decide (c ∈ g.cols)) (fun p hp => by
      obtain ⟨row, col⟩ := w.outside p (subset hp)
      rw [List.mem_filter, List.mem_filter, decide_eq_false row, decide_eq_false col]
      exact (repairs.covers p (subset hp)).imp (⟨·, rfl⟩) (⟨·, rfl⟩)) (fun r _ => inRow r) fun c _ => inCol c
  calc l.length
    _ ≤ g.scRem * (rows.filter fun r => !decide (r ∈ g.rows)).length
        + g.srRem * (cols.filter fun c => !decide (c ∈ g.cols)).length := bound
    _ ≤ g.scRem * g.srRem + g.srRem * g.scRem := Nat.add_le_add (Nat.mul_le_mul_left _ fewRows) (Nat.mul_le_mul_left _ fewCols)
    _ = 2 * g.srRem * g.scRem := by rw [Nat.mul_comm g.scRem, Nat.mul_assoc, Nat.two_mul]

/-- The passes and the bound check do not condemn a region that can be repaired, and what they leave can be repaired still. -/
theorem Repairs.screened (repairs : Repairs sr sc rows cols g ahead) (w : Working sr sc g ahead) (screened : Screened g ahead h) :
    h.state ≠ .unrepairable ∧ Repairs sr sc rows cols h [] := by
  induction screened with
  | rowsSpent g ahead spent => exact absurd (repairs.forced_few w) (Nat.not_le.mpr spent)
  | colsSpent g k ahead left few assigned rest spent =>
    subst assigned rest
    have rows := w.withRows (forcedRows_nodup g ahead) (List.Subset.refl _) few
    exact absurd ((repairs.withRows w).forced_few_cols rows) (Nat.not_le.mpr spent)
  | again g k l ahead left few assigned rest fewCols _ _ ih =>
    subst assigned rest
    have rows := w.withRows (forcedRows_nodup g ahead) (List.Subset.refl _) few
    exact ih ((repairs.withRows w).withCols rows) (rows.withCols (forcedCols_nodup _ _) (List.Subset.refl _) fewCols)
  | settled g ahead noRows noCols =>
    have bound := repairs.within_bound w (List.subset_append_left _ _)
      (row_limit noRows) (col_limit noCols)
    rw [Region.positions, List.length_map] at bound
    rw [if_neg (Nat.not_lt.mpr bound)]
    refine ⟨by simp [w.tracking], repairs.fewRows, repairs.fewCols, repairs.assignedRows, repairs.assignedCols, fun p hp => ?_⟩
    exact repairs.covers p (List.mem_append_left _ (by simpa using hp))

/-- Where each line listed is within a limit, and one of them is below it, one more of that one keeps them within it. -/
theorem count_with_one_more {lines : List Nat} {r limit : Nat} (new : lines.count r + 1 ≤ limit)
    (old : ∀ x ∈ lines, lines.count x ≤ limit) (b : Nat) : (lines ++ [r]).count b ≤ limit := by
  rw [List.count_append]
  by_cases same : b = r
  · rw [same, List.count_singleton_self]
    exact new
  · rw [List.count_eq_zero_of_not_mem (mt List.mem_singleton.mp same)]
    by_cases present : b ∈ lines
    · exact old b present
    · rw [List.count_eq_zero_of_not_mem present]
      exact Nat.zero_le _

/-- No fail cell event that a repair covers condemns the region, where the spares are at most four of each kind (R111 to R117). -/
theorem Repairs.takeEvent (sound : RegionSound sr sc g) (live : g.state ≠ .unrepairable) (fewRows : sr ≤ 4) (fewCols : sc ≤ 4)
    (repairs : Repairs sr sc rows cols g []) {r c : Nat} (covered : r ∈ rows ∨ c ∈ cols) :
    (g.takeEvent r c).state ≠ .unrepairable ∧ Repairs sr sc rows cols (g.takeEvent r c) [] := by
  have covers {p : Nat × Nat} (hp : p ∈ g.positions ++ [(r, c)]) : p.1 ∈ rows ∨ p.2 ∈ cols := by
    rcases List.mem_append.mp hp with old | new
    · exact repairs.covers p (List.mem_append_left _ old)
    · rw [List.mem_singleton.mp new]; exact covered
  have looking : Repairs sr sc rows cols g [(r, c)] :=
    ⟨repairs.fewRows, repairs.fewCols, repairs.assignedRows, repairs.assignedCols, fun p hp => covers hp⟩
  have taken := taken_takeEvent sound r c
  generalize g.takeEvent r c = h at taken ⊢
  cases taken with
  | ignored dead => exact absurd dead live
  | covered => exact ⟨live, repairs.fewRows, repairs.fewCols, repairs.assignedRows, repairs.assignedCols, repairs.covers⟩
  | repeated =>
    refine ⟨live, repairs.fewRows, repairs.fewCols, repairs.assignedRows, repairs.assignedCols, ?_⟩
    rw [g.positions_hit]
    exact repairs.covers
  | stored working screened =>
    have stored : Repairs sr sc rows cols (g.grown r c) [] :=
      ⟨repairs.fewRows, repairs.fewCols, repairs.assignedRows, repairs.assignedCols,
        fun p hp => covers (by simpa [Region.positions, Region.grown] using hp)⟩
    exact stored.screened working screened
  | ahead working screened => exact looking.screened working screened
  | full working _ full inRow inCol =>
    exfalso
    obtain ⟨usedRows, usedCols, -, -, -, -, -, rest⟩ := sound
    obtain ⟨-, -, rowLimit, colLimit⟩ := rest live
    have bound := looking.within_bound working (List.Subset.refl _) (fun b => ?_) fun b => ?_
    · rw [List.length_append, Region.positions, List.length_map, List.length_singleton] at bound
      have : 2 * g.srRem * g.scRem ≤ 2 * 4 * 4 :=
        Nat.mul_le_mul (Nat.mul_le_mul_left _ (by omega)) (by omega)
      omega
    · rw [List.map_append, Region.positions, List.map_map]
      refine count_with_one_more (lines := g.cells.map Cell.row) inRow (fun x hx => ?_) b
      obtain ⟨y, hy, rfl⟩ := List.mem_map.mp hx
      have limit := rowLimit y hy
      rw [count_row, List.map_map] at limit
      exact limit
    · rw [List.map_append, Region.positions, List.map_map]
      refine count_with_one_more (lines := g.cells.map Cell.col) inCol (fun x hx => ?_) b
      obtain ⟨y, hy, rfl⟩ := List.mem_map.mp hx
      have limit := colLimit y hy
      rw [count_col, List.map_map] at limit
      exact limit

/-- A region laid out, CLEAN with its spares, is sound. -/
theorem regionSound_laidOut (sr sc : Nat) (flag : Bool) :
    RegionSound sr sc { Region.reset with srRem := sr, scRem := sc, summaryPending := flag } :=
  ⟨Nat.zero_add _, Nat.zero_add _, by simp [Region.reset], .nil, .nil, .nil, fun _ => ⟨rfl, rfl, rfl⟩,
    fun _ => ⟨Nat.zero_le _, nofun, nofun, nofun⟩⟩

/-- Settles O50: a repair of all the events is a repair of the region after each of them, and so condemns none. -/
theorem condemnedRegionsCannotBeRepaired : Obligations.CondemnedRegionsCannotBeRepaired := by
  intro sr sc events fewRows fewCols condemned ⟨rows, cols, rowsLength, colsLength, covers⟩
  have kept (events : List (Nat × Nat)) (covers : ∀ e ∈ events, e.1 ∈ rows ∨ e.2 ∈ cols) (g : Region)
      (sound : RegionSound sr sc g) (live : g.state ≠ .unrepairable)
      (repairs : Repairs sr sc rows cols g []) :
      (events.foldl (fun g e => g.takeEvent e.1 e.2) g).state ≠ .unrepairable := by
    induction events generalizing g with
    | nil => exact live
    | cons e events ih =>
      obtain ⟨live', repairs'⟩ := Repairs.takeEvent sound live fewRows fewCols repairs
        (covers e List.mem_cons_self)
      exact ih (fun e he => covers e (List.mem_cons_of_mem _ he)) _ (regionSound_takeEvent sound e.1 e.2) live' repairs'
  refine kept events covers _ (regionSound_laidOut sr sc Region.reset.summaryPending) (by simp [Region.reset]) ?_ condemned
  exact ⟨rowsLength, colsLength, nofun, nofun, nofun⟩

end Sys2Proof.Machine
end

section
/-! The repair regions, the site verdict and the clean state of a site that has yet to join stay as they must be at every step
(R65, R104, R112, R115, R116, R119). -/
namespace Sys2Proof.Machine

open Sys2Proof.Safety

variable {known : Prop} {rate : LinkRate} {rs : List BankRef} {x y : Site} {s t : State} {i : SiteIx} {c : Instr}

/-! ### Banks -/

/-- Every change of the hub keeps the banks valid. -/
theorem sound_change (h : ∀ k : ProfileIx, (s.profile k).Sound) (change : Change known s t) (k : ProfileIx) :
    (t.profile k).Sound := by
  cases change with
  | aside quiet => rw [State.profile, quiet.profiles]; exact h k
  | site i moved => exact (like_dropRefs _ k).sound (h k)
  | copy i d l active mode room =>
    rw [State.copyBurst_eq d mode]
    exact (like_addRef _ k).sound (h k)
  | swap l =>
    rw [State.profile_modProfile]
    split
    · exact (h l).swap
    · exact h k
  | requestSwap l noSwap passes free =>
    rw [State.profile_modProfile]
    split
    · exact (h l).requestSwap passes
    · exact h k
  | setPair => exact h k
  | join i l idle mode valid free => rw [State.join_eq]; exact h k

theorem sound_upheaval (h : ∀ k : ProfileIx, (s.profile k).Sound) (upheaval : Upheaval s t) (k : ProfileIx) :
    (t.profile k).Sound := by
  cases upheaval with
  | rest sites profiles pairs => rw [State.profile, profiles]; exact h k
  | wrote l w noSwap free sites pairs profiles =>
    have profile : t.profile k = (s.modProfile l fun p => p.write w).profile k := by rw [State.profile, profiles]; rfl
    rw [profile, State.profile_modProfile]
    split
    · exact (h l).write noSwap
    · exact h k
  | tested running sites pairs profiles =>
    rw [State.profile, profiles, show (Vector.replicate 4 (Profile.reset Tables.zeroed Tables.zeroed))[k]
      = Profile.reset Tables.zeroed Tables.zeroed from Vector.getElem_replicate _]
    exact Profile.reset_sound _ _
  | restarted sites profiles =>
    obtain ⟨a, b, same⟩ := profiles k
    rw [same]
    exact Profile.reset_sound a b

/-- The geometry of a VALID active bank has at most four spares of each kind (R4, R16). -/
theorem Profile.Sound.spares {p : Profile} (h : p.Sound) (valid : p.activeBank.valid = true) :
    p.activeBank.tables.geometry.sr ≤ 4 ∧ p.activeBank.tables.geometry.sc ≤ 4 := by
  obtain ⟨inRange, -⟩ := (Tables.validate_eq_none _).mp (h.1 p.active valid)
  obtain ⟨-, -, -, -, -, rows, cols⟩ := of_decide_eq_true inRange
  exact ⟨rows, cols⟩

/-! ### Regions of a site -/

/-- The regions of a site are sound for its join geometry. -/
def RegionsLaw (_ : LinkRate) (x : Site) : Prop :=
  (joinSpares x).1 ≤ 4 ∧ (joinSpares x).2 ≤ 4 ∧ ∀ g : RegionIx, RegionSound (joinSpares x).1 (joinSpares x).2 x.regions[g]

/-- The site verdict is that of the regions (R119). -/
def VerdictLaw (_ : LinkRate) (x : Site) : Prop :=
  x.run.unrepairable = true ↔ ∃ g : RegionIx, x.regions[g].state = .unrepairable

/-- A site in TRAINING or IDLE is as a site clear leaves it (R65). -/
def FreshLaw (_ : LinkRate) (x : Site) : Prop :=
  x.run.state = .training ∨ x.run.state = .idle →
    x.run.primary = none ∧ x.run.additional = [] ∧ x.run.mapIncomplete = false
      ∧ x.run.unrepairable = false ∧ x.run.failGap = false ∧ x.run.offsetSaturated = false
      ∧ x.run.joinGeometry = none
      ∧ x.head.copied = 0 ∧ x.head.flushed = 0 ∧ x.head.launched = 0
      ∧ x.mapper.answered = 0 ∧ x.mapper.lost = 0 ∧ x.mapper.abandoned = 0
      ∧ x.mapper.failingVectors = 0 ∧ x.mapper.failingBits = 0
      ∧ x.reports.admitted = 0 ∧ x.reports.dropped = 0 ∧ x.reports.gapPending = false
      ∧ x.regions = Vector.replicate 16 Region.reset

@[simp] theorem unrepairable_withCause (k : Cause) (r : RunRecord) : (withCause k r).unrepairable = r.unrepairable := by
  unfold withCause
  split
  · rfl
  · split <;> rfl

theorem region_cleared (x : Site) (g : RegionIx) : x.clear.regions[g] = Region.reset := Vector.getElem_replicate _

theorem region_set (regions : Vector Region 16) (g h : RegionIx) (r : Region) :
    (regions.set g r)[h] = if h = g then r else regions[h] := by
  rw [Fin.getElem_fin, Vector.getElem_set]
  by_cases same : h = g
  · rw [if_pos (congrArg Fin.val same.symm), if_pos same]
  · rw [if_neg fun e => same (Fin.ext e.symm), if_neg same]
    rfl

/-- A site without join geometry and with every region at its reset value is sound. -/
theorem RegionsLaw.of_reset (geometry : y.run.joinGeometry = none) (regions : ∀ g : RegionIx, y.regions[g] = Region.reset) :
    RegionsLaw rate y := by
  rw [RegionsLaw, joinSpares, geometry]
  exact ⟨Nat.zero_le _, Nat.zero_le _, fun g => by rw [regions]; exact regionSound_laidOut 0 0 false⟩

theorem VerdictLaw.of_live (verdict : y.run.unrepairable = false) (regions : ∀ g : RegionIx, y.regions[g].state = .clean) :
    VerdictLaw rate y := by
  rw [VerdictLaw, verdict]
  exact ⟨nofun, fun ⟨g, dead⟩ => absurd ((regions g).symm.trans dead) nofun⟩

/-- A region that is set to a sound one leaves the site's regions sound. -/
theorem RegionsLaw.set (h : RegionsLaw rate x) (g : RegionIx) {r : Region}
    (sound : RegionSound (joinSpares x).1 (joinSpares x).2 r) (geometry : y.run.joinGeometry = x.run.joinGeometry)
    (regions : y.regions = x.regions.set g r) : RegionsLaw rate y := by
  obtain ⟨rows, cols, all⟩ := h
  have spares : joinSpares y = joinSpares x := by rw [joinSpares, geometry]; rfl
  rw [RegionsLaw, spares, regions]
  refine ⟨rows, cols, fun l => ?_⟩
  rw [region_set]
  split
  · exact sound
  · exact all l

theorem regionsLaw : SiteLaw known RegionsLaw where
  change := by
    intro rate rs x y h change
    cases change
    case minor same => exact minor_keeps (law := RegionsLaw rate) (fun _ => Iff.rfl) same h
    case cause k _ => simpa [RegionsLaw, joinSpares] using h
    case trainFail => simpa [RegionsLaw, joinSpares] using h
    case shown g => exact h.set g (r := { x.regions[g] with summaryPending := false }) (h.2.2 g) rfl rfl
    case event g r c _ => exact h.set g (regionSound_takeEvent (h.2.2 g) r c) rfl rfl
    case bringUp | clearIdle | clearTraining => exact .of_reset rfl (region_cleared x)
    all_goals exact h
  copy _ h _ _ := h
  rates h _ := h
  reset _ := .of_reset rfl region_of_siteReset

/-- An UNREPAIRABLE region stays UNREPAIRABLE (R109). -/
theorem state_takeEvent_dead {g : Region} (r c : Nat) (dead : g.state = .unrepairable) :
    (g.takeEvent r c).state = .unrepairable := by
  rw [takeEvent_ignored r c dead]
  exact dead

/-- A fail cell event turns the verdict with the region that it turns UNREPAIRABLE (R119). -/
theorem VerdictLaw.withEvent (h : VerdictLaw rate x) (g : RegionIx) (r c : Nat) : VerdictLaw rate (x.withEvent g r c) := by
  have region (l : RegionIx) : (x.withEvent g r c).regions[l] = if l = g then x.regions[g].takeEvent r c else x.regions[l] :=
    region_set _ _ _ _
  have verdict : (x.withEvent g r c).run.unrepairable = true ↔ x.run.unrepairable = true
      ∨ (x.regions[g].state ≠ .unrepairable ∧ (x.regions[g].takeEvent r c).state = .unrepairable) := by
    simp [Site.withEvent]
  rw [VerdictLaw, verdict]
  constructor
  · rintro (before | ⟨-, dead⟩)
    · obtain ⟨l, dead⟩ := h.mp before
      refine ⟨l, ?_⟩
      rw [region]
      split
      · rename_i same
        subst same
        exact state_takeEvent_dead r c dead
      · exact dead
    · exact ⟨g, by rw [region, if_pos rfl]; exact dead⟩
  · rintro ⟨l, dead⟩
    rw [region] at dead
    split at dead
    · by_cases before : x.regions[g].state = .unrepairable
      · exact .inl (h.mpr ⟨g, before⟩)
      · exact .inr ⟨before, dead⟩
    · exact .inl (h.mpr ⟨l, dead⟩)

theorem verdictLaw : SiteLaw known VerdictLaw where
  change := by
    intro rate rs x y h change
    cases change
    case minor same => exact minor_keeps (law := VerdictLaw rate) (fun _ => Iff.rfl) same h
    case cause k _ => simpa [VerdictLaw] using h
    case trainFail => simpa [VerdictLaw] using h
    case shown g =>
      refine h.trans (exists_congr fun l => ?_)
      rw [region_set]
      split
      · rename_i same; rw [same]
      · rfl
    case event g r c _ => exact h.withEvent g r c
    case bringUp | clearIdle | clearTraining => exact .of_live rfl fun g => congrArg Region.state (region_cleared x g)
    all_goals exact h
  copy _ h _ _ := h
  rates h _ := h
  reset _ := .of_live rfl fun g => congrArg Region.state (region_of_siteReset g)

/-! ### A site that has yet to join -/

/-- A law that speaks of the states TRAINING and IDLE says nothing of another. -/
theorem FreshLaw.of_joined {st : SiteState} (state : y.run.state = st) (other : st ≠ .training ∧ st ≠ .idle) : FreshLaw rate y :=
  fun resting => by rcases resting with e | e <;> rw [state] at e <;> simp [e] at other

theorem FreshLaw.of_busy (busy : x.run.state ≠ .training ∧ x.run.state ≠ .idle) (same : y.run.state = x.run.state) :
    FreshLaw rate y := .of_joined same busy

theorem FreshLaw.cleared (run : y.run.primary = none ∧ y.run.additional = [] ∧ y.run.mapIncomplete = false
      ∧ y.run.unrepairable = false ∧ y.run.failGap = false ∧ y.run.offsetSaturated = false ∧ y.run.joinGeometry = none)
    (head : y.head.copied = 0 ∧ y.head.flushed = 0 ∧ y.head.launched = 0) (mapper : y.mapper = FailCounters.reset)
    (reports : y.reports = ⟨0, 0, false, true⟩) (regions : y.regions = Vector.replicate 16 Region.reset) :
    FreshLaw rate y := by
  intro _
  obtain ⟨primary, additional, incomplete, verdict, gap, saturated, geometry⟩ := run
  obtain ⟨copied, flushed, launched⟩ := head
  rw [mapper, reports]
  exact ⟨primary, additional, incomplete, verdict, gap, saturated, geometry, copied, flushed, launched, rfl, rfl, rfl, rfl, rfl,
    rfl, rfl, rfl, regions⟩

/-- The regions of a cleared site with the flag of one of them cleared are those of a cleared site. -/
theorem set_shown_of_reset {regions : Vector Region 16} (h : regions = Vector.replicate 16 Region.reset) (g : RegionIx) :
    regions.set g { regions[g] with summaryPending := false } = Vector.replicate 16 Region.reset := by
  have region : regions[g] = Region.reset := by rw [h]; exact Vector.getElem_replicate _
  rw [region, h]
  exact Vector.set_replicate_self

/-- Nothing happens to a site before it joins but its training, which leaves it as the site clear left it. -/
theorem FreshLaw.change (h : FreshLaw rate x) (queues : QueuesLaw rate x) (change : SiteChange True rate rs x y) :
    FreshLaw rate y := by
  cases change
  case minor same => exact minor_keeps (law := FreshLaw rate) (fun _ => Iff.rfl) same h
  case shown g =>
    intro resting
    obtain ⟨primary, additional, incomplete, verdict, gap, saturated, geometry, copied, flushed, launched, answered, lost,
      abandoned, vectors, bits, admitted, dropped, pending, regions⟩ := h resting
    exact ⟨primary, additional, incomplete, verdict, gap, saturated, geometry, copied, flushed, launched, answered, lost,
      abandoned, vectors, bits, admitted, dropped, pending, set_shown_of_reset regions g⟩
  case incomplete busy => exact .of_busy (busy trivial) rfl
  case cause k busy => exact .of_busy (busy trivial) (by simp)
  case counted busy => exact .of_busy (busy trivial) rfl
  case event busy => exact .of_busy (busy trivial) rfl
  case loop busy => exact .of_busy (busy trivial) rfl
  case trainFail | retire | abandon | release | releaseDown | disable => exact .of_joined rfl (by simp [retiredSite, abandonedSite])
  case drain | prime | activate => exact .of_joined rfl (by simp)
  case launch e rest record began bound first active fine room => exact .of_joined active (by decide)
  case trained state => exact fun _ => h (.inl state)
  case retrain target limit notFine state enabled => exact fun _ => h (.inr state)
  case answered k inside =>
    intro resting
    have none := (queues.empty_at_rest (by grind)).2
    simp [none] at inside
  case bringUp => exact .cleared ⟨rfl, rfl, rfl, rfl, rfl, rfl, rfl⟩ ⟨rfl, rfl, rfl⟩ rfl rfl rfl
  case clearIdle => exact .cleared ⟨rfl, rfl, rfl, rfl, rfl, rfl, rfl⟩ ⟨rfl, rfl, rfl⟩ rfl rfl rfl
  case clearTraining => exact .cleared ⟨rfl, rfl, rfl, rfl, rfl, rfl, rfl⟩ ⟨rfl, rfl, rfl⟩ rfl rfl rfl
  all_goals exact h

/-- What O59 speaks of at one site. -/
structure ScreenLaw (rate : LinkRate) (x : Site) : Prop where
  queues : QueuesLaw rate x
  regions : RegionsLaw rate x
  verdict : VerdictLaw rate x
  fresh : FreshLaw rate x

theorem screenLaw : SiteLaw True ScreenLaw where
  change h change := ⟨queuesLaw.change h.queues change, regionsLaw.change h.regions change, verdictLaw.change h.verdict change,
    h.fresh.change h.queues change⟩
  copy e h active room := ⟨queuesLaw.copy (known := True) e h.queues active room, h.regions, h.verdict,
    .of_joined active (by decide)⟩
  rates h _ := ⟨h.queues, h.regions, h.verdict, h.fresh⟩
  reset rate := ⟨queuesLaw.reset (known := True) rate, regionsLaw.reset (known := True) rate, verdictLaw.reset (known := True) rate,
    .of_joined (st := .disabled) rfl (by decide)⟩

/-- A site that joins has its regions laid out from the geometry that its spares then come from (R107). -/
theorem ScreenLaw.joined (h : ScreenLaw rate x) (idle : x.run.state = .idle) {g : Geometry} (fewRows : g.sr ≤ 4)
    (fewCols : g.sc ≤ 4) (blanking : Nat) : ScreenLaw rate (x.joined g blanking) := by
  have region (l : RegionIx) : (x.joined g blanking).regions[l] = x.regions[l].layOut g := Vector.getElem_ofFn _
  obtain ⟨queue, list⟩ := h.queues.empty_of_eq idle (by decide)
  refine ⟨.of_empty queue list, ⟨fewRows, fewCols, fun l => ?_⟩, .of_live (h.fresh (.inr idle)).2.2.2.1 fun l => ?_,
    .of_joined (st := .armed) rfl (by decide)⟩
  · rw [region]
    exact regionSound_laidOut _ _ _
  · rw [region]
    rfl

/-- What O59 speaks of. -/
structure Screens (s : State) : Prop where
  sound : ∀ k : ProfileIx, (s.profile k).Sound
  sites : AllSites ScreenLaw s

theorem screens_iff : Screens s ↔ RegionsSound s ∧ BanksValid s ∧ QueuesHeld s ∧ FreshBeforeJoin s ∧ VerdictAgrees s :=
  ⟨fun ⟨sound, sites⟩ => ⟨fun i => (sites i).regions, banksValid_iff.mpr sound, fun i => (sites i).queues,
      fun i => (sites i).fresh, fun i => (sites i).verdict⟩,
    fun ⟨regions, valid, queues, fresh, verdict⟩ => ⟨banksValid_iff.mp valid,
      fun i => ⟨queues i, regions i, verdict i, fresh i⟩⟩⟩

theorem Screens.change (h : Screens s) (change : Change True s t) : Screens t := by
  refine ⟨sound_change h.sound change, screenLaw.keeps h.sites change fun i k idle _ valid => ?_⟩
  obtain ⟨rows, cols⟩ := (h.sound k).spares valid
  exact (h.sites i).joined idle rows cols _

/-- Settles O59: the laws of one site are kept by every change of it, the queues held at the start of a command saying that only a
site that has joined takes a result; a site that joins takes the spares of a VALID bank. -/
theorem stepsKeepRegionsSound : Obligations.StepsKeepRegionsSound := by
  intro s t laws next
  refine screens_iff.mp (step_keeps (law := Screens) (fun _ _ _ _ h => ⟨h.sound, h.sites⟩) (fun c s t h next => ?_)
    (screens_iff.mpr laws) next)
  exact exec_keeps (known := True) (fun _ h _ i => (h.sites i).queues) (fun _ _ h => h.change)
    (fun _ _ h upheaval => ⟨sound_upheaval h.sound upheaval, screenLaw.keeps_upheaval h.sites upheaval⟩) h next

end Sys2Proof.Machine
end

section
/-! Bytes on the links: numbers, the frame check, the envelope, and the frames that decode to the commands they were made from
(R192 to R198). -/
namespace Sys2Proof.Machine

open Sys2Proof.Safety

/-! ### Numbers -/

theorem ofNat_div_256 (h : Half) : BitVec.ofNat 8 (h.toNat / 256) = h.extractLsb' 8 8 := by
  apply BitVec.eq_of_toNat_eq
  simp [BitVec.extractLsb'_toNat, Nat.shiftRight_eq_div_pow]

theorem ofNat_toNat_half (h : Half) : BitVec.ofNat 8 h.toNat = h.extractLsb' 0 8 := by
  apply BitVec.eq_of_toNat_eq
  simp [BitVec.extractLsb'_toNat]

/-- Two bytes of a number, high byte first. -/
theorem beBytes_two (n : Nat) : beBytes 2 n = twoBytes n := by simp [beBytes, twoBytes, List.range_succ]

theorem twoBytes_toNat (h : Half) : twoBytes h.toNat = halfBytes h := by
  rw [twoBytes, ofNat_div_256, ofNat_toNat_half, halfBytes]

/-- The two bytes of a half word are that half word again. -/
theorem joinHalf_halfBytes (h : Half) : joinHalf (h.extractLsb' 8 8) (h.extractLsb' 0 8) = h := by
  apply BitVec.eq_of_getLsbD_eq
  intro k hk
  rw [joinHalf, BitVec.getLsbD_append]
  by_cases low : k < 8
  · simp [low]
  · have index : 8 + (k - 8) = k := by omega
    have small : k - 8 < 8 := by omega
    simp [low, index, small]

theorem joinHalf_twoBytes {n : Nat} (small : n < 65536) :
    (joinHalf (BitVec.ofNat 8 (n / 256)) (BitVec.ofNat 8 n)).toNat = n := by
  have same := joinHalf_halfBytes (BitVec.ofNat 16 n)
  rw [← ofNat_div_256, ← ofNat_toNat_half, BitVec.toNat_ofNat, Nat.mod_eq_of_lt small] at same
  rw [same, BitVec.toNat_ofNat, Nat.mod_eq_of_lt small]

/-! ### The frame check -/

/-- What one bit does to the check register: a shift, and the polynomial added where top bit and bit differ (R193). -/
theorem crcBit_eq (reg : Half) (bit : Bool) :
    crcBit reg bit = (reg <<< 1) ^^^ (if Bool.xor reg.msb bit then 0x1021#16 else 0) := by
  rw [crcBit]
  split <;> simp

/-- The check is linear: one bit through the sum of two registers. -/
theorem crcBit_xor (x y : Half) (a b : Bool) : crcBit (x ^^^ y) (a ^^ b) = crcBit x a ^^^ crcBit y b := by
  have shift : (x ^^^ y) <<< 1 = (x <<< 1) ^^^ (y <<< 1) := BitVec.shiftLeft_xor_distrib x y 1
  have select (p q : Bool) : (if (p ^^ q) then 0x1021#16 else 0)
      = (if p then 0x1021#16 else 0) ^^^ (if q then 0x1021#16 else 0 : Half) := by
    cases p <;> cases q <;> rfl
  have bits : ((x ^^^ y).msb ^^ (a ^^ b)) = ((x.msb ^^ a) ^^ (y.msb ^^ b)) := by
    rw [BitVec.msb_xor, Bool.xor_assoc, Bool.xor_left_comm y.msb, ← Bool.xor_assoc]
  rw [crcBit_eq, crcBit_eq, crcBit_eq, bits, select, shift]
  generalize (if (x.msb ^^ a) then 0x1021#16 else 0) = p
  generalize (if (y.msb ^^ b) then 0x1021#16 else 0) = q
  rw [BitVec.xor_assoc, ← BitVec.xor_assoc (y <<< 1), BitVec.xor_comm (y <<< 1), BitVec.xor_assoc p, ← BitVec.xor_assoc]

theorem crcByte_xor (x y : Half) (v w : Byte) : crcByte (x ^^^ y) (v ^^^ w) = crcByte x v ^^^ crcByte y w := by
  simp only [crcByte, List.foldl_cons, List.foldl_nil, BitVec.getLsbD_xor, crcBit_xor]

/-- A byte that is the register's own top byte shifts it out. -/
theorem crcByte_own (reg : Half) : crcByte reg (reg.extractLsb' 8 8) = reg <<< 8 := by
  have bits (i : Nat) (few : i ≤ 8) :
      (List.range i).foldl (fun r k => crcBit r ((reg.extractLsb' 8 8).getLsbD (7 - k))) reg = reg <<< i := by
    induction i with
    | zero => simp
    | succ i ih =>
      have own : (reg.extractLsb' 8 8).getLsbD (7 - i) = (reg <<< i).msb := by
        rw [BitVec.msb_eq_getLsbD_last, BitVec.getLsbD_shiftLeft, BitVec.getLsbD_extractLsb']
        have inside : ¬ 15 < i := by omega
        have index : 8 + (7 - i) = 15 - i := by omega
        simp [inside, index]
        omega
      rw [List.range_succ, List.foldl_append, ih (by omega), List.foldl_cons, List.foldl_nil, own, crcBit_eq, Bool.xor_self,
        BitVec.shiftLeft_add]
      simp
  exact bits 8 (Nat.le_refl 8)

/-- The check bytes of a register take it to 0000H (R193). -/
theorem crc_own (reg : Half) : (halfBytes reg).foldl crcByte reg = 0#16 := by
  have low : reg.extractLsb' 0 8 = (reg <<< 8).extractLsb' 8 8 := by
    apply BitVec.eq_of_getLsbD_eq
    intro k hk
    simp [hk]
    omega
  rw [halfBytes, List.foldl_cons, List.foldl_cons, List.foldl_nil, crcByte_own, low, crcByte_own, ← BitVec.shiftLeft_add]
  simp

/-- Two bytes of ones take an empty register to 1D0FH. -/
theorem crc_ones : crcByte (crcByte 0#16 ((0xFFFF#16).extractLsb' 8 8)) ((0xFFFF#16).extractLsb' 0 8) = 0x1D0F#16 := by
  have first : crcByte 0#16 0xFF#8 = 0x1EF0#16 := by rfl
  have second : crcByte 0x1EF0#16 0xFF#8 = 0x1D0F#16 := by rfl
  rw [show (0xFFFF#16).extractLsb' 8 8 = 0xFF#8 from by decide, show (0xFFFF#16).extractLsb' 0 8 = 0xFF#8 from by decide, first,
    second]

/-- Their one's complement takes it elsewhere: to where ones alone would take an empty register. -/
theorem crc_inverted (reg : Half) : (halfBytes (~~~reg)).foldl crcByte reg ≠ 0#16 := by
  have byte (start : Nat) : (~~~reg).extractLsb' start 8 = reg.extractLsb' start 8 ^^^ (0xFFFF#16).extractLsb' start 8 := by
    rw [← BitVec.extractLsb'_xor]
    congr 1
    rw [BitVec.not_def]
    exact BitVec.xor_comm _ _
  have own := crc_own reg
  rw [halfBytes, List.foldl_cons, List.foldl_cons, List.foldl_nil] at own ⊢
  have start : crcByte reg = crcByte (reg ^^^ 0#16) := by rw [BitVec.xor_zero]
  rw [byte, byte, start, crcByte_xor, crcByte_xor, own]
  rw [BitVec.zero_xor, crc_ones]
  decide

theorem crcOf_append (sent rest : List Byte) : crcOf (sent ++ rest) = rest.foldl crcByte (crcOf sent) := List.foldl_append

/-- A frame sent with its check as computed ends at 0000H at the receiver, and one sent with the one's complement does not. -/
theorem crcOf_check (sent : List Byte) :
    crcOf (sent ++ halfBytes (crcOf sent)) = 0#16 ∧ crcOf (sent ++ halfBytes (~~~crcOf sent)) ≠ 0#16 := by
  rw [crcOf_append, crcOf_append]
  exact ⟨crc_own _, crc_inverted _⟩

/-! ### The envelope -/

/-- A frame whose payload is within the largest of its kind opens to its kind and payload (R192, R193). -/
theorem openFrame_frameBytes {largest : Byte → Nat} {kind : Byte} {payload : List Byte} (fits : payload.length ≤ largest kind)
    (small : payload.length < 65536) : openFrame largest (frameBytes kind payload) = some (kind, payload) := by
  have check := (crcOf_check (envelope kind payload.length payload)).1
  have length := joinHalf_twoBytes small
  have shape : frameBytes kind payload = kind :: BitVec.ofNat 8 (payload.length / 256) :: BitVec.ofNat 8 payload.length
      :: (payload ++ halfBytes (crcOf (envelope kind payload.length payload))) := by
    rw [frameBytes, envelope, beBytes_two]
    rfl
  rw [show envelope kind payload.length payload ++ halfBytes (crcOf (envelope kind payload.length payload))
    = frameBytes kind payload from rfl, shape] at check
  rw [shape, openFrame, length, if_pos ⟨by simp [halfBytes], fits, check⟩, List.take_left']
  rfl

/-! ### Frames that read back -/

theorem decodeTrunkFrame_frameBytes {kind : Byte} {payload : List Byte} {c : Instr} (fits : payload.length ≤ trunkLargest kind)
    (small : payload.length < 65536) (reads : decodeDownstream kind payload = c) :
    decodeTrunkFrame false (frameBytes kind payload) = c
      ∧ decodeTrunkFrame true (frameBytes kind payload) = .selftestFrameDiscard := by
  rw [decodeTrunkFrame, decodeTrunkFrame, openFrame_frameBytes fits small]
  exact ⟨reads, rfl⟩

theorem decodeBurst_encodeBurst (f : BurstFrame) : decodeBurst (encodeBurst f) = some f := by
  simp only [encodeBurst, halfBytes, List.cons_append, List.nil_append, decodeBurst, joinHalf_halfBytes]

theorem decodeCtrl_encoded (r : CtrlRequest) : decodeCtrl (halfBytes r.id ++ r.kind :: r.body) = some r := by
  simp only [halfBytes, List.cons_append, List.nil_append, decodeCtrl, joinHalf_halfBytes]

/-- Settles O3: each kind of frame in turn opens to its payload, which its fields fill exactly. -/
theorem trunkFramesReadBack : Obligations.TrunkFramesReadBack := by
  intro c bytes wf encoded
  unfold encodeTrunkFrame at encoded
  split at encoded
  · rename_i f
    cases encoded
    refine decodeTrunkFrame_frameBytes (by simp [trunkLargest, encodeBurst, halfBytes]) (by simp [encodeBurst, halfBytes]) ?_
    rw [decodeDownstream, if_pos rfl, decodeBurst_encodeBurst]
    rfl
  · cases encoded
    exact decodeTrunkFrame_frameBytes (Nat.zero_le _) (by decide) (by decide)
  · cases encoded
    exact decodeTrunkFrame_frameBytes (Nat.zero_le _) (by decide) (by decide)
  · rename_i r
    cases encoded
    have short : r.body.length + 3 ≤ 1024 := of_decide_eq_true wf
    have length : (halfBytes r.id ++ r.kind :: r.body).length = r.body.length + 3 := by simp [halfBytes]
    refine decodeTrunkFrame_frameBytes (by rw [length]; exact short) (by omega) ?_
    rw [decodeDownstream, decodeCtrl_encoded]
    rfl
  · cases encoded

theorem decodeEntries_encoded (entries : List FailEntry) :
    decodeEntries (entries.flatMap fun e => e.v :: halfBytes e.mask) = some entries := by
  induction entries with
  | nil => rfl
  | cons e entries ih =>
    simp only [List.flatMap_cons, halfBytes, List.cons_append, List.nil_append, decodeEntries, joinHalf_halfBytes]
    simp only [halfBytes] at ih
    rw [ih]
    rfl

theorem decodeResult_encodeResult {f : ResultFrame} (few : f.entries.length < 256) : decodeResult (encodeResult f) = some f := by
  have count : f.entries.length = (BitVec.ofNat 8 f.entries.length).toNat := by
    rw [BitVec.toNat_ofNat, Nat.mod_eq_of_lt few]
  rw [encodeResult]
  simp only [halfBytes, List.cons_append, List.nil_append, decodeResult]
  have entries := decodeEntries_encoded f.entries
  simp only [halfBytes] at entries
  rw [entries]
  simp only [joinHalf_halfBytes, if_pos count]

theorem length_encodeResult (f : ResultFrame) : (encodeResult f).length = 4 + 3 * f.entries.length := by
  have entries : ∀ entries : List FailEntry,
      (entries.flatMap fun e => e.v :: halfBytes e.mask).length = 3 * entries.length := by
    intro entries
    induction entries with
    | nil => rfl
    | cons e entries ih =>
      rw [List.flatMap_cons, List.length_append, ih, List.length_cons, List.length_cons]
      simp only [halfBytes, List.length_cons, List.length_nil]
      omega
  rw [encodeResult, List.length_append, entries]
  rfl

/-- Settles O4: a Head Port takes a frame by its kind byte, and opens it to the payload that was sent. -/
theorem headFramesReadBack : Obligations.HeadFramesReadBack := by
  intro i bytes
  refine ⟨fun f wf encoded => ?_, fun f encoded => ?_, fun f encoded => ?_⟩
  · cases encoded
    have short : 4 + 3 * f.entries.length ≤ 196 := of_decide_eq_true wf
    have length := length_encodeResult f
    have opens : openFrame headLargest (frameBytes 0x91#8 (encodeResult f)) = some (0x91#8, encodeResult f) :=
      openFrame_frameBytes (by rw [length]; exact short) (by omega)
    have reads : decodeHeadFrame i (frameBytes 0x91#8 (encodeResult f))
        = .result i (((openFrame headLargest (frameBytes 0x91#8 (encodeResult f))).map Prod.snd).bind decodeResult) := rfl
    rw [reads, opens, Option.map_some, Option.bind_some, decodeResult_encodeResult (by omega)]
  · cases encoded
    have opens : openFrame headLargest (frameBytes 0x92#8 (halfBytes f.current ++ [f.present, f.phase]))
        = some (0x92#8, halfBytes f.current ++ [f.present, f.phase]) :=
      openFrame_frameBytes (Nat.le_refl 4) (by simp [halfBytes])
    have reads : decodeHeadFrame i (frameBytes 0x92#8 (halfBytes f.current ++ [f.present, f.phase])) = .telemetry i
        (((openFrame headLargest (frameBytes 0x92#8 (halfBytes f.current ++ [f.present, f.phase]))).map Prod.snd).bind
          decodeTelemetry) := rfl
    rw [reads, opens, Option.map_some, Option.bind_some]
    simp only [halfBytes, List.cons_append, List.nil_append, decodeTelemetry, joinHalf_halfBytes]
  · cases encoded
    have opens : openFrame headLargest (frameBytes 0x15#8 [f.site, f.rate]) = some (0x15#8, [f.site, f.rate]) :=
      openFrame_frameBytes (Nat.le_refl 2) (by simp)
    have reads : decodeHeadFrame i (frameBytes 0x15#8 [f.site, f.rate]) = .trainFrameReceived i
        (((openFrame headLargest (frameBytes 0x15#8 [f.site, f.rate])).map Prod.snd).bind decodeTrain) := rfl
    rw [reads, opens]
    rfl

/-! ### What the hub sends -/

theorem beBytes_four (n : Nat) : beBytes 4 n = twoBytes (n / 65536) ++ twoBytes n := by
  simp [beBytes, twoBytes, List.range_succ, Nat.div_div_eq_div_mul]

theorem lineSlots_eq (lines : List Nat) : lineSlots lines
    = twoBytes (lines.getD 0 0) ++ twoBytes (lines.getD 1 0) ++ twoBytes (lines.getD 2 0) ++ twoBytes (lines.getD 3 0) := by
  simp [lineSlots, List.range_succ, beBytes_two]

theorem flagBits_eq (a b c d : Bool) : flagBits a b c d
    = (if a then 1 else 0) + (if b then 2 else 0) + (if c then 4 else 0) + (if d then 8 else 0) := by
  cases a <;> cases b <;> cases c <;> cases d <;> rfl

theorem bytes_vector (v : PatternVector) :
    v.bytes = oneByte v.op.code ++ twoBytes v.prow ++ twoBytes v.pcol ++ twoBytes v.pins := by
  simp [PatternVector.bytes, beBytes_two, oneByte, codeByte]

/-- A frame toward a head ends with its check bytes, as computed, inverted or none (R37). -/
theorem bytes_headSent (frame : HeadFrame) (check : CheckSent) :
    (HeadSent.mk frame check).bytes = frame.sentPart ++ checkBytes frame.sentPart check := by
  cases check
  · rfl
  · rfl
  · exact (List.append_nil _).symm

/-- Settles O5: each layout written out, and the linear check. -/
theorem framesSentCarryTheirFieldsAndCheck : Obligations.FramesSentCarryTheirFieldsAndCheck := by
  refine ⟨⟨rfl, fun sent b => ?_⟩, crcOf_check, fun r => ?_, fun r => ?_, fun r => ?_, fun r => rfl, fun r => ?_,
    fun group outcome => rfl, fun records payload eq => ?_, fun frame => ?_, fun tag n vectors check body eq => ?_,
    fun kind site check body eq => ?_⟩
  · rw [crcOf_append]
    rfl
  · simp [Record.bytes, beBytes_two, twoBytes_toNat, oneByte, codeByte, flagCode]
  · simp only [Record.bytes, beBytes_four, oneByte, codeByte, flagBits_eq, causeBits, List.append_assoc]
    cases r.primary <;> rfl
  · simp [Record.bytes, lineSlots_eq, oneByte, codeByte]
  · simp [Record.bytes, oneByte, codeByte, twoBytes_toNat, flagCode]
    cases r.data <;> rfl
  · have bytes : (UpFrame.report records).bytes = frameBytes 0x81#8 payload := by rw [eq]; rfl
    rw [bytes]
    refine ⟨?_, fun short => openFrame_frameBytes short (by omega)⟩
    rw [frameBytes, envelope, beBytes_two]
    rfl
  · cases frame <;> exact openFrame_frameBytes (Nat.le_refl 1) (by decide)
  · rw [bytes_headSent, eq]
    have body : (HeadFrame.vectorBlock tag n vectors).sentPart = [0x11] ++ twoBytes (3 + 7 * n) ++ twoBytes tag.toNat
        ++ oneByte n ++ (vectors.flatMap fun v =>
          oneByte v.op.code ++ twoBytes v.prow ++ twoBytes v.pcol ++ twoBytes v.pins) := by
      have same : PatternVector.bytes = fun v =>
          oneByte v.op.code ++ twoBytes v.prow ++ twoBytes v.pcol ++ twoBytes v.pins := funext bytes_vector
      rw [HeadFrame.sentPart, envelope, beBytes_two, same, twoBytes_toNat]
      simp [oneByte, codeByte]
    rw [body]
  · rw [bytes_headSent, eq]
    cases kind <;> rfl

end Sys2Proof.Machine
end

section
/-! The address map: its bits, its four checks in order, and that a map that passes them is a bijection (R4, R5, R16, R31). -/
namespace Sys2Proof.Machine

open Sys2Proof.Safety

variable {t : Tables}

/-! ### The address bit by bit -/

theorem ofBits_succ (w : Nat) (f : Nat → Bool) : ofBits (w + 1) f = ofBits w f + if f w then 2 ^ w else 0 := by
  simp [ofBits, List.range_succ]

theorem ofBits_lt (w : Nat) (f : Nat → Bool) : ofBits w f < 2 ^ w := by
  induction w with
  | zero => exact Nat.one_pos
  | succ w ih =>
    rw [ofBits_succ, Nat.pow_succ]
    split <;> omega

theorem testBit_ofBits (w : Nat) (f : Nat → Bool) {k : Nat} (inside : k < w) : (ofBits w f).testBit k = f k := by
  induction w with
  | zero => cases inside
  | succ w ih =>
    rw [ofBits_succ]
    rcases Nat.lt_succ_iff_lt_or_eq.mp inside with below | rfl
    · split
      · rw [Nat.add_comm, Nat.testBit_two_pow_add_gt below, ih below]
      · exact ih below
    · have low := ofBits_lt k f
      split
      · rename_i high
        rw [Nat.add_comm, Nat.testBit_two_pow_add_eq, Nat.testBit_lt_two_pow low, high]
        rfl
      · rename_i high
        rw [Nat.add_zero, Nat.testBit_lt_two_pow low, eq_false_of_ne_true high]

theorem Tables.entry_eq (t : Tables) (i : Fin 26) : t.entry i = t.map[i] := by simp [Tables.entry]

theorem Tables.entry_of_lt (t : Tables) {i : Nat} (hi : i < 26) : t.entry i = t.map[(⟨i, hi⟩ : Fin 26)] := t.entry_eq ⟨i, hi⟩

theorem testBit_physAddr (t : Tables) (l : Nat) {i : Nat} (inside : i < t.geometry.n) :
    (physAddr t l).testBit i = (t.entry i).bit l := testBit_ofBits _ _ inside

/-! ### The checks in order -/

theorem inRange_iff (g : Geometry) : g.inRange = true ↔ GeometryFits g := decide_eq_true_iff

/-- Whether value `i` of a list of values below `n` repeats an earlier one, or is `n` or above (R16). -/
def repeatsOrExceeds (n : Nat) (f : Nat → Nat) (i : Nat) : Bool :=
  decide (n ≤ f i) || (List.range i).any fun j => f j == f i

theorem firstNotPermuted_eq_find (n : Nat) (f : Nat → Nat) : firstNotPermuted n f = (List.range n).find? (repeatsOrExceeds n f) :=
  rfl

/-- A search over the first `n` indices finds the lowest that fails, and nothing where none fails. -/
theorem find_lowest {m n : Nat} {p : Nat → Bool} {Fails : Fin m → Prop} (fits : n ≤ m)
    (agree : ∀ i : Fin m, Fails i ↔ i.val < n ∧ p i = true) :
    (∀ i : Fin m, Fails i → (∀ j : Fin m, j < i → ¬ Fails j) → (List.range n).find? p = some i.val)
      ∧ ((∀ i : Fin m, ¬ Fails i) → (List.range n).find? p = none) := by
  constructor
  · intro i fails lowest
    obtain ⟨inside, found⟩ := (agree i).mp fails
    refine List.find?_range_eq_some.mpr ⟨found, List.mem_range.mpr inside, fun j before => ?_⟩
    have passes := lowest ⟨j, by omega⟩ before
    rw [agree] at passes
    simpa using fun high => passes ⟨by simp only; omega, high⟩
  · intro passes
    refine List.find?_eq_none.mpr fun i hi found => ?_
    have inside := List.mem_range.mp hi
    exact passes ⟨i, by omega⟩ ((agree _).mpr ⟨inside, found⟩)

theorem sourceFails_iff (i : Fin 26) : SourceFails t i ↔ i.val < t.geometry.n
    ∧ repeatsOrExceeds t.geometry.n (fun i => (t.entry i).source) i = true := by
  refine and_congr_right fun _ => ?_
  rw [repeatsOrExceeds, Bool.or_eq_true, decide_eq_true_iff, t.entry_eq, List.any_eq_true]
  refine or_congr Iff.rfl ⟨fun ⟨j, before, same⟩ => ⟨j, List.mem_range.mpr before, ?_⟩, fun ⟨j, before, same⟩ => ?_⟩
  · rw [t.entry_eq]
    exact beq_iff_eq.mpr same
  · have index : j < 26 := Nat.lt_trans (List.mem_range.mp before) i.isLt
    rw [t.entry_of_lt index] at same
    exact ⟨⟨j, index⟩, List.mem_range.mp before, beq_iff_eq.mp same⟩

theorem partnerFails_iff (fits : t.geometry.n ≤ 26) (i : Fin 26) :
    PartnerFails t i ↔ i.val < t.geometry.n ∧ (!t.partnerOk i) = true := by
  refine and_congr_right fun _ => ?_
  rw [Tables.partnerOk, t.entry_eq]
  cases t.map[i].partner with
  | none => simp
  | some p =>
    have reached : (∃ j : Fin 26, j.val < t.geometry.rb + t.geometry.cb ∧ t.map[j].source = p ∧ t.map[j].partner ≠ none)
        ↔ ¬ (List.range t.geometry.n).all (fun j => decide ((t.entry j).source = p → (t.entry j).partner = none)) = true := by
      rw [List.all_eq_true]
      constructor
      · rintro ⟨j, inside, source, partner⟩ all
        have free := of_decide_eq_true (all j (List.mem_range.mpr inside))
        rw [t.entry_eq] at free
        exact partner (free source)
      · intro some
        obtain ⟨j, some⟩ := Classical.not_forall.mp some
        obtain ⟨inside, fails⟩ := Classical.not_imp.mp some
        have inside := List.mem_range.mp inside
        have index : j < 26 := by omega
        rw [t.entry_of_lt index, decide_eq_true_iff] at fails
        exact ⟨⟨j, index⟩, inside, Classical.not_imp.mp fails⟩
    rw [Option.any_some, Option.all_some, decide_eq_true_iff, Bool.not_eq_true', Bool.and_eq_false_iff, reached,
      Bool.not_eq_true, decide_eq_false_iff_not, Geometry.n]
    have first : (¬ (p < t.geometry.rb + t.geometry.cb ∧ p ≠ t.map[i].source))
        ↔ t.geometry.rb + t.geometry.cb ≤ p ∨ p = t.map[i].source := by
      rw [Classical.not_and_iff_not_or_not, Nat.not_lt, Classical.not_not]
    rw [first, or_assoc]

theorem pinFails_iff (d : Fin 16) : PinFails t d ↔ d.val < t.geometry.w
    ∧ repeatsOrExceeds t.geometry.w t.pinOf d = true := by
  refine and_congr_right fun _ => ?_
  rw [repeatsOrExceeds, Bool.or_eq_true, decide_eq_true_iff, t.pinOf_eq, List.any_eq_true]
  refine or_congr Iff.rfl ⟨fun ⟨e, before, same⟩ => ⟨e, List.mem_range.mpr before, ?_⟩, fun ⟨e, before, same⟩ => ?_⟩
  · rw [t.pinOf_eq]
    exact beq_iff_eq.mpr same
  · have index : e < 16 := Nat.lt_trans (List.mem_range.mp before) d.isLt
    have pin := t.pinOf_eq ⟨e, index⟩
    rw [show t.pinOf e = t.pinOrder[(⟨e, index⟩ : Fin 16)] from pin] at same
    exact ⟨⟨e, index⟩, List.mem_range.mp before, beq_iff_eq.mp same⟩

/-- Validation of a bank whose geometry fits: what the three searches find (R16). -/
theorem Tables.validate_of_fits (fits : GeometryFits t.geometry) :
    t.validate = match firstNotPermuted t.geometry.n (fun i => (t.entry i).source) with
      | some i => some (.mapSource, i)
      | none => match (List.range t.geometry.n).find? (fun i => !t.partnerOk i) with
        | some i => some (.mapPartner, i)
        | none => (firstNotPermuted t.geometry.w t.pinOf).map fun d => (.pinOrder, d) := by
  rw [Tables.validate, (inRange_iff _).mpr fits]
  rfl

/-! ### The map of a valid bank -/

theorem Tables.source_injOn (valid : t.validate = none) {i j : Nat} (hi : i < t.geometry.n) (hj : j < t.geometry.n)
    (same : (t.entry i).source = (t.entry j).source) : i = j := by
  obtain ⟨-, sources, -, -⟩ := t.validate_eq_none.mp valid
  exact firstNotPermuted_injOn sources hi hj same

/-- A function that takes the numbers below `n` to numbers below `n`, no two to the same, reaches each of them. -/
theorem onto_below {n k : Nat} {f : Nat → Nat} (into : ∀ i < n, f i < n) (apart : ∀ i < n, ∀ j < n, f i = f j → i = j)
    (hk : k < n) : ∃ i < n, f i = k := by
  refine Classical.byContradiction fun missed => ?_
  have distinct : ((List.range n).map f).Nodup := nodup_map_of_mem List.nodup_range fun i hi j hj =>
    apart i (List.mem_range.mp hi) j (List.mem_range.mp hj)
  have fresh : k ∉ (List.range n).map f := fun reached => by
    obtain ⟨i, hi, is⟩ := List.mem_map.mp reached
    exact missed ⟨i, List.mem_range.mp hi, is⟩
  have more := length_le_of_members (s := List.range n) (List.nodup_cons.mpr ⟨fresh, distinct⟩) fun x hx => by
    rcases List.mem_cons.mp hx with rfl | hx
    · exact List.mem_range.mpr hk
    · obtain ⟨i, hi, rfl⟩ := List.mem_map.mp hx
      exact List.mem_range.mpr (into i (List.mem_range.mp hi))
  rw [List.length_cons, List.length_map, List.length_range] at more
  omega

/-- Every logical address bit is the source of some physical one. -/
theorem Tables.source_surjOn (valid : t.validate = none) {k : Nat} (hk : k < t.geometry.n) :
    ∃ i < t.geometry.n, (t.entry i).source = k := by
  obtain ⟨-, sources, -, -⟩ := t.validate_eq_none.mp valid
  exact onto_below (fun i hi => ((firstNotPermuted_eq_none _ _).mp sources i hi).1)
    (fun i hi j hj => Tables.source_injOn valid hi hj) hk

/-- A partner of a valid map is a logical address bit whose own entry has no partner (R16). -/
theorem Tables.partner_free (valid : t.validate = none) {i p : Nat} (hi : i < t.geometry.n) (has : (t.entry i).partner = some p) :
    p < t.geometry.n ∧ ∀ j < t.geometry.n, (t.entry j).source = p → (t.entry j).partner = none := by
  obtain ⟨-, -, partners, -⟩ := t.validate_eq_none.mp valid
  have ok := List.find?_eq_none.mp partners i (List.mem_range.mpr hi)
  rw [Bool.not_eq_true, Bool.not_eq_false', Tables.partnerOk, has, Option.all_some, Bool.and_eq_true, decide_eq_true_iff,
    List.all_eq_true] at ok
  exact ⟨ok.1.1, fun j hj => of_decide_eq_true (ok.2 j (List.mem_range.mpr hj))⟩

/-- Two logical addresses with the same physical address agree in the source of every entry without a partner, and so in every
partner, and so in every source. -/
theorem physAddr_injOn (valid : t.validate = none) {l m : Nat} (hl : l < 2 ^ t.geometry.n) (hm : m < 2 ^ t.geometry.n)
    (same : physAddr t l = physAddr t m) : l = m := by
  have bits {i : Nat} (hi : i < t.geometry.n) : (t.entry i).bit l = (t.entry i).bit m := by
    rw [← testBit_physAddr t l hi, same, testBit_physAddr t m hi]
  have alone {i : Nat} (hi : i < t.geometry.n) (none : (t.entry i).partner = none) :
      l.testBit (t.entry i).source = m.testBit (t.entry i).source := by
    simpa [MapEntry.bit, none] using bits hi
  have sources {i : Nat} (hi : i < t.geometry.n) : l.testBit (t.entry i).source = m.testBit (t.entry i).source := by
    cases has : (t.entry i).partner with
    | none => exact alone hi has
    | some p =>
      obtain ⟨hp, free⟩ := Tables.partner_free valid hi has
      obtain ⟨j, hj, rfl⟩ := Tables.source_surjOn valid hp
      have partner := alone hj (free j hj rfl)
      simpa [MapEntry.bit, has, partner] using bits hi
  refine Nat.eq_of_testBit_eq fun k => ?_
  by_cases hk : k < t.geometry.n
  · obtain ⟨i, hi, rfl⟩ := Tables.source_surjOn valid hk
    exact sources hi
  · have above : 2 ^ t.geometry.n ≤ 2 ^ k := Nat.pow_le_pow_right (by decide) (Nat.not_lt.mp hk)
    rw [Nat.testBit_lt_two_pow (Nat.lt_of_lt_of_le hl above), Nat.testBit_lt_two_pow (Nat.lt_of_lt_of_le hm above)]

theorem physAddr_surjOn (valid : t.validate = none) {p : Nat} (hp : p < 2 ^ t.geometry.n) :
    ∃ l < 2 ^ t.geometry.n, physAddr t l = p :=
  onto_below (fun _ _ => ofBits_lt _ _) (fun _ hl _ hm => physAddr_injOn valid hl hm) hp

/-- Settles O7: the searches of the checks find the lowest index, and an injective map of a finite set is onto. -/
theorem validMapsAreBijections : Obligations.ValidMapsAreBijections := by
  intro t
  refine ⟨fun l i inside => ?_, fun out => ?_, fun fits => ?_, fun valid => ⟨fun l => ofBits_lt _ _, fun l m => physAddr_injOn valid,
    fun p => physAddr_surjOn valid⟩⟩
  · rw [testBit_physAddr t l inside, t.entry_eq, MapEntry.bit]
    cases t.map[i].partner <;> rfl
  · rw [Tables.validate, if_pos (eq_false_of_ne_true (mt (inRange_iff _).mp out))]
  · have few : t.geometry.n ≤ 26 := by rw [Geometry.n]; omega
    have wide : t.geometry.w ≤ 16 := by omega
    obtain ⟨source, noSource⟩ := find_lowest few (Fails := SourceFails t) sourceFails_iff
    obtain ⟨partner, noPartner⟩ := find_lowest few (Fails := PartnerFails t) (p := fun i => !t.partnerOk i) (partnerFails_iff few)
    obtain ⟨pin, noPin⟩ := find_lowest wide (Fails := PinFails t) pinFails_iff
    have checks := Tables.validate_of_fits fits
    refine ⟨fun i fails lowest => ?_, fun sources => ⟨fun i fails lowest => ?_, fun partners => ⟨fun d fails lowest => ?_,
      fun pins => ?_⟩⟩⟩
    · rw [checks, firstNotPermuted_eq_find, source i fails lowest]
    · rw [checks, firstNotPermuted_eq_find, noSource sources, partner i fails lowest]
    · rw [checks, firstNotPermuted_eq_find, noSource sources, noPartner partners, firstNotPermuted_eq_find, pin d fails lowest]
      rfl
    · rw [checks, firstNotPermuted_eq_find, noSource sources, noPartner partners, firstNotPermuted_eq_find, noPin pins]
      rfl

end Sys2Proof.Machine
end

section
/-! What a request carries, and its answer: the items of a body read back, one index of two bytes, and the oldest request taken
(R173, R175, R195). -/
namespace Sys2Proof.Machine

open Sys2Proof.Safety

variable {s t : State} {r : CtrlRequest} {rest : List CtrlRequest} {kind : Byte}

/-! ### Items -/

/-- An item is read off the front of a body. -/
theorem itemsOf_itemSent {item body : List Byte} (short : item.length < 256) (fuel : Nat) :
    itemsOf (fuel + 1) (itemSent item ++ body) = (itemsOf fuel body).map (item :: ·) := by
  have length : (BitVec.ofNat 8 item.length).toNat = item.length := by rw [BitVec.toNat_ofNat, Nat.mod_eq_of_lt short]
  rw [itemSent, List.cons_append, itemsOf, length, if_neg (by simp), List.drop_left, List.take_left]

/-- Items sent one behind the other are read back in order. -/
theorem itemsOf_sent {items : List (List Byte)} (short : ∀ x ∈ items, x.length < 256) {fuel : Nat}
    (enough : items.length ≤ fuel) : itemsOf fuel (items.flatMap itemSent) = some items := by
  induction items generalizing fuel with
  | nil => cases fuel <;> rfl
  | cons item items ih =>
    obtain ⟨fuel, rfl⟩ : ∃ n, fuel = n + 1 := ⟨fuel - 1, by simp only [List.length_cons] at enough; omega⟩
    rw [List.flatMap_cons, itemsOf_itemSent (short item List.mem_cons_self),
      ih (fun x hx => short x (List.mem_cons_of_mem _ hx)) (Nat.le_of_succ_le_succ enough)]
    rfl

/-- A body that is read is the items sent one behind the other. -/
theorem body_of_itemsOf {fuel : Nat} {body : List Byte} {items : List (List Byte)} (h : itemsOf fuel body = some items) :
    body = items.flatMap itemSent := by
  induction fuel generalizing body items with
  | zero =>
    cases body with
    | nil => cases h; rfl
    | cons b body => cases h
  | succ fuel ih =>
    cases body with
    | nil => cases h; rfl
    | cons len body =>
      rw [itemsOf] at h
      split at h
      · cases h
      · rename_i whole
        obtain ⟨items, read, rfl⟩ := Option.map_eq_some_iff.mp h
        have length : (body.take len.toNat).length = len.toNat := List.length_take_of_le (Nat.not_lt.mp whole)
        rw [List.flatMap_cons, ← ih read, itemSent, length, BitVec.ofNat_toNat, BitVec.setWidth_eq, List.cons_append,
          List.take_append_drop]

theorem length_le_sent (items : List (List Byte)) : items.length ≤ (items.flatMap itemSent).length := by
  induction items with
  | nil => exact Nat.le_refl 0
  | cons item items ih =>
    rw [List.flatMap_cons, List.length_append, List.length_cons, itemSent, List.length_cons]
    omega

theorem bodyItems_sent {items : List (List Byte)} (short : ∀ x ∈ items, x.length < 256) (body : r.body = items.flatMap itemSent) :
    bodyItems r = some items := by
  rw [bodyItems, body]
  exact itemsOf_sent short (length_le_sent items)

theorem body_of_bodyItems {items : List (List Byte)} (h : bodyItems r = some items) : r.body = items.flatMap itemSent :=
  body_of_itemsOf h

/-- An option is an item, empty where it is absent. -/
theorem optionSent_eq (option : Option (List Byte)) : optionSent option = itemSent (option.getD []) := by
  cases option <;> rfl

/-! ### Numbers -/

theorem beNat_two (hi lo : Byte) : beNat [hi, lo] = (hi ++ lo).toNat := by
  rw [BitVec.toNat_append, Nat.shiftLeft_eq, Nat.mul_comm, ← Nat.two_pow_add_eq_or_of_lt lo.isLt]
  simp [beNat]
  omega

theorem beNat_twoBytes (v : Half) : beNat (twoBytes v.toNat) = v.toNat := by
  simp [beNat, twoBytes]
  omega

theorem numItem_twoBytes (v : Half) : numItem 2 (twoBytes v.toNat) = some v.toNat := by
  rw [numItem, if_pos (show (twoBytes v.toNat).length = 2 from rfl), beNat_twoBytes]

theorem numItem_two (hi lo : Byte) : numItem 2 [hi, lo] = some (hi ++ lo).toNat := by
  rw [numItem, if_pos (show [hi, lo].length = 2 from rfl), beNat_two]

/-- An optional number is read back. -/
theorem optItem_numItem (v : Option Half) :
    optItem (numItem 2) ((v.map fun v => twoBytes v.toNat).getD []) = some (v.map BitVec.toNat) := by
  cases v with
  | none => rfl
  | some v =>
    rw [Option.map_some, Option.getD_some, optItem, numItem_twoBytes]
    rfl

/-- An item that reads as a number of two bytes is those two bytes. -/
theorem numItem_eq_some {item : List Byte} {n : Nat} (h : numItem 2 item = some n) :
    ∃ hi lo : Byte, item = [hi, lo] ∧ n = (hi ++ lo).toNat := by
  unfold numItem at h
  split at h
  · rename_i two
    obtain ⟨hi, lo, rfl⟩ : ∃ hi lo : Byte, item = [hi, lo] := by
      match item, two with
      | [hi, lo], _ => exact ⟨hi, lo, rfl⟩
    exact ⟨hi, lo, rfl, by rw [← beNat_two]; exact (Option.some.inj h).symm⟩
  · cases h

/-- A body of one index item. -/
theorem indexOperand_two {hi lo : Byte} (body : r.body = [2, hi, lo]) : indexOperand r = some (hi ++ lo).toNat := by
  have items : bodyItems r = some [[hi, lo]] := bodyItems_sent (by simp) body
  rw [indexOperand, items]
  exact numItem_two hi lo

theorem indexOperand_none (body : ∀ hi lo : Byte, r.body ≠ [2, hi, lo]) : indexOperand r = none := by
  unfold indexOperand
  split
  · rename_i item items
    cases read : numItem 2 item with
    | none => rfl
    | some n =>
      obtain ⟨hi, lo, rfl, -⟩ := numItem_eq_some read
      exact absurd (body_of_bodyItems items) (body hi lo)
  · rfl

theorem siteOf_val (i : SiteIx) : siteOf i.val = some i := dif_pos i.isLt
theorem siteOf_none {n : Nat} (large : 8 ≤ n) : siteOf n = none := dif_neg (Nat.not_lt.mpr large)
theorem profileOf_val (k : ProfileIx) : profileOf k.val = some k := dif_pos k.isLt
theorem profileOf_none {n : Nat} (large : 4 ≤ n) : profileOf n = none := dif_neg (Nat.not_lt.mpr large)
theorem pairIndexOf_val (k : PairIx) : pairIndexOf k.val = some k := dif_pos k.isLt
theorem pairIndexOf_none {n : Nat} (large : 4 ≤ n) : pairIndexOf n = none := dif_neg (Nat.not_lt.mpr large)
theorem regionIndexOf_val (g : RegionIx) : regionIndexOf g.val = some g := dif_pos g.isLt
theorem regionIndexOf_none {n : Nat} (large : 16 ≤ n) : regionIndexOf n = none := dif_neg (Nat.not_lt.mpr large)

/-! ### Answers -/

/-- The oldest request of a kind is taken and answered by its effect. -/
theorem live_takeRequest (asked : Asked s kind r rest) (effect : CtrlRequest → State → Answer) :
    live s (fun s => s.takeRequest kind effect) = .next ((effect r (intakeLeft s rest)).after.respond r
      (effect r (intakeLeft s rest)).code (effect r (intakeLeft s rest)).data) := by
  rw [live_released s asked.1, State.takeRequest_asked s asked]

/-- The same where the answer is known. -/
theorem live_answered (asked : Asked s kind r rest) {effect : CtrlRequest → State → Answer} {answer : Answer}
    (is : effect r (intakeLeft s rest) = answer) :
    live s (fun s => s.takeRequest kind effect) = .next (answer.after.respond r answer.code answer.data) := by
  rw [live_takeRequest asked, is]

@[simp] theorem site_intakeLeft (i : SiteIx) : (intakeLeft s rest).site i = s.site i := rfl
@[simp] theorem profile_intakeLeft (k : ProfileIx) : (intakeLeft s rest).profile k = s.profile k := rfl
@[simp] theorem pairOf_intakeLeft (i : SiteIx) : (intakeLeft s rest).pairOf i = s.pairOf i := rfl
@[simp] theorem clock_intakeLeft : (intakeLeft s rest).clock = s.clock := rfl

end Sys2Proof.Machine
end

section
/-! Resets, the self-test, the trunk link and the heartbeat, as the statements give them (R173, R184 to R191). -/
namespace Sys2Proof.Machine

open Sys2Proof.Safety

variable {s t : State} {r : CtrlRequest} {rest : List CtrlRequest}

/-! ### Resets -/

/-- A low pin holds every command but power-on and the two of the pin (R190). -/
theorem exec_held {c : Instr} (low : s.resetPin = .low) (power : c ≠ .powerOnReset) (pin : c ≠ .resetPin)
    (release : c ≠ .resetPinRelease) : exec c s = .next s := by
  cases c
  case powerOnReset => exact absurd rfl power
  case resetPin => exact absurd rfl pin
  case resetPinRelease => exact absurd rfl release
  all_goals simp only [exec, execSelftestEnd, execTrunkTrainingStart, execTrunkLinkUp, execTrunkSymbolLockLoss,
    execMainframeRestart, execTrunkFrameCheckFail, execTrunkUnknownKind, execSelftestFrameDiscard, execBurst, execMark,
    execSeriesPoint, execLineMarkDue, execLinePulseEnd, execMonPulseEnd, execBeat, execBeatExpiry, execCtrl, execHubReset,
    execGetHub, execSetHub, execWriteProfile, execReadProfile, execSwapProfile, execSetSite, execSetPair, execJoinSite,
    execRetireSite, execClearSite, execReleaseSite, execReadSite, execReadRegion, execReadCells, execResume,
    execUnknownRequestKind, execReportFrameBuild, execReportFrameSent, execInterruptedReportResend, execFlowFrameSend,
    execCoalescingTimerExpiry, execSummaryRecord, execLaunch, execVectorBlockEnd, execControlFrameSend, execControlFrameEnd,
    execPatternRecognised, execTrainFrameReceived, execHeadSymbolLockLoss, execUnknownHeadFrame, execResult, execTelemetry,
    execDeadlineExpiry, execTrainingLimitExpiry, execFlowFrameEnd, live_held s low]

/-- Settles O9: the three resets written out, and every other command held by the pin. -/
theorem powerOnAndThePinResetEveryBlock : Obligations.PowerOnAndThePinResetEveryBlock := by
  intro s
  refine ⟨fun c => exec_held, fun low => ?_, fun released => ?_, ⟨_, rfl, rfl, profile_keepContents _⟩, fun low => ?_⟩
  · simp only [exec, execPowerOnReset, State.blocksReset, low, if_true]
  · have high : ¬ s.resetPin = .low := by rw [released]; decide
    simp only [exec, execPowerOnReset, if_neg high, State.blocksReset, State.startSelfTest, State.newSelfTest, released]
    rfl
  · simp only [exec, execResetPinRelease, if_pos low, State.startSelfTest, State.newSelfTest]
    rfl

/-- A body that is no single flag item is no operand of HUB_RESET. -/
theorem hubResetOperand_none (clear : r.body ≠ [1, 0]) (set : r.body ≠ [1, 1]) : hubResetOperand r = none := by
  unfold hubResetOperand
  split
  · rename_i item items
    have body := body_of_bodyItems items
    unfold flagItem
    split
    · split
      · rename_i zero; subst zero; exact absurd body clear
      · split
        · rename_i one; subst one; exact absurd body set
        · rfl
    · rfl
  · rfl

/-- Settles O10: a malformed HUB_RESET is answered, and one with its flag resets all but the trunk link. -/
theorem hubResetKeepsTheTrunkLink : Obligations.HubResetKeepsTheTrunkLink := by
  refine ⟨fun s r rest ⟨released, intake, kind⟩ clear set => ?_, fun s r rest skip asked body => ?_⟩
  · have taken : s.oldestRequest (fun k => decide (k = 1)) = some (r, intakeLeft s rest) := by
      simp [State.oldestRequest, intake, kind, intakeLeft]
    simp only [exec, execHubReset]
    rw [live_released s released]
    simp only [taken, hubResetOperand_none clear set]
  · refine ⟨_, exec_hubReset_asked asked body, ?_, profile_keepContents _, fun free => ?_, fun frame sending => ?_,
      fun records again sending => ?_⟩
    · have high : s.resetPin = .high := asked.1
      cases skip <;> simp [State.hubReset, State.startSelfTest, State.newSelfTest, State.blocksReset, TrunkPort.hubReset,
        intakeLeft, high, FlowState.frame, State.reset, Config.skippedTestTicks, Config.selfTestTicks, Config.ticksPerUs]
    · show (s.trunk.hubReset).upstream = .free
      rw [TrunkPort.hubReset, free]
    · show (s.trunk.hubReset).upstream = .flow frame
      rw [TrunkPort.hubReset, sending]
    · show (s.trunk.hubReset).upstream = .free ∧ (s.trunk.hubReset).sent = some (.frame (.report records) .cutOff)
      rw [TrunkPort.hubReset, sending]
      exact ⟨rfl, rfl⟩

/-! ### The end of the self-test -/

/-- With every site at reset and few records the Flow Monitor changes nothing (R57). -/
theorem readFlow_quiet (sites : ∀ i : SiteIx, s.site i = Site.reset) (flow : s.flow = .flowing)
    (few : s.report.queue.length < 192) : s.readFlow = s := by
  have none : s.someQueueAtLeast 24 = false := by
    rw [State.someQueueAtLeast, List.any_eq_false]
    intro i _
    rw [sites]
    decide
  rw [State.readFlow, flow]
  simp only [State.holdCondition, none, Bool.or_false, decide_eq_true_eq]
  rw [if_neg (Nat.not_le.mpr few)]

/-- Records admitted one after another only join the queue. -/
theorem foldl_enqueue_quiet (sites : ∀ i : SiteIx, s.site i = Site.reset) (flow : s.flow = .flowing) (records : List Record)
    (few : s.report.queue.length + records.length < 192) : records.foldl State.enqueue s =
      { s with report := { s.report with queue := s.report.queue ++ records.map fun d => ⟨d, s.clock⟩ } } := by
  induction records generalizing s with
  | nil => simp
  | cons d records ih =>
    simp only [List.length_cons] at few
    have joined : s.enqueue d = { s with report := { s.report with queue := s.report.queue ++ [⟨d, s.clock⟩] } } := by
      refine readFlow_quiet sites flow ?_
      rw [List.length_append, List.length_singleton]
      omega
    rw [List.foldl_cons, joined, ih (s := { s with report := { s.report with queue := s.report.queue ++ [⟨d, s.clock⟩] } }) sites
      flow (by simp only [List.length_append, List.length_singleton]; omega)]
    simp

/-- Settles O12: with the blocks at reset each DIAG record only joins the queue. -/
theorem selfTestEndMakesTheHubReady : Obligations.SelfTestEndMakesTheHubReady := by
  intro s r test released quiet running
  have asleep := asleep_of_quiet quiet (quiet.1 (by rw [running]; rfl))
  have empty : (s.reach test.endsAt).report.queue = [] := asleep.queue
  have ended : exec (.selftestEnd r) s = .next ((s.reach test.endsAt).testResults test.skipped r).becomeReady := by
    simp only [exec, execSelftestEnd]
    rw [live_released s released]
    simp only [running]
  rw [ended]
  cases skipped : test.skipped with
  | true =>
    have one := foldl_enqueue_quiet (s := s.reach test.endsAt) asleep.site asleep.flow [.diag .all .skipped] (by rw [empty]; decide)
    have results : (s.reach test.endsAt).testResults true r =
        { [Record.diag .all .skipped].foldl State.enqueue (s.reach test.endsAt) with outcome := .skipped } := rfl
    rw [results, one]
    simp [State.becomeReady, State.flagHub, State.reach, asleep.queue, asleep.beatLimit]
  | false =>
    have four := foldl_enqueue_quiet (s := (s.reach test.endsAt).zeroGroups) asleep.site asleep.flow
      [.diag .profile (groupOutcome r.profile), .diag .queues (groupOutcome r.queues), .diag .regions (groupOutcome r.regions),
        .diag .report (groupOutcome r.report)] (by rw [show (s.reach test.endsAt).zeroGroups.report.queue = [] from empty]; simp)
    have results : (s.reach test.endsAt).testResults false r =
        { [Record.diag .profile (groupOutcome r.profile), .diag .queues (groupOutcome r.queues),
            .diag .regions (groupOutcome r.regions), .diag .report (groupOutcome r.report)].foldl State.enqueue
              (s.reach test.endsAt).zeroGroups with
          outcome := groupOutcome (r.profile && r.queues && r.regions && r.report) } := rfl
    rw [results, four]
    simp [State.becomeReady, State.flagHub, State.reach, State.zeroGroups, asleep.queue, asleep.beatLimit, groupOutcome]

/-! ### The trunk link -/

/-- Settles O13: the run of error-free sequences is counted part by part. -/
theorem trunkTrainingBringsTheLinkUp : Obligations.TrunkTrainingBringsTheLinkUp := by
  intro s received before n run released given
  have counted : alignedRun s.trunk.sequences received = run := by
    rcases given with ⟨rfl, rfl⟩ | ⟨rfl, rfl⟩
    · exact alignedRun_replicate _ _
    · rw [alignedRun_error, alignedRun_replicate, Nat.zero_add]
  simp only [exec, execTrunkTrainingStart, execTrunkLinkUp, execTrunkSymbolLockLoss]
  rw [live_released s released, live_released s released, live_released s released]
  simp only [counted]
  refine ⟨fun down => by rw [if_pos down], fun training enough => ?_, fun training short => ?_, fun other => by rw [if_neg other],
    fun training => by simp only [training]⟩
  · rw [if_pos training, if_pos enough]
    refine ⟨_, rfl, ?_, fun free => ?_⟩
    · cases flow : s.flow <;> simp [State.trunkUp, flow, FlowState.frame]
    · simp [State.trunkUp, TrunkPort.output, free]
  · rw [if_pos training, if_neg (Nat.not_le.mpr short)]

/-- A loss of the trunk link, the beat detector's expiry written out (R185, R188). -/
theorem State.trunkLost_eq (s : State) (target : LinkState) : s.trunkLost target = { s with
    trunk := s.trunk.lose target,
    beat := if s.beat.limit = 0 then s.beat else { s.beat with counter := none, seen := false },
    hub := if s.beat.limit ≠ 0 ∧ s.hub = .ready then .holdover else s.hub,
    report := { s.report with
      hubPending := s.report.hubPending || decide (s.beat.limit ≠ 0 ∧ s.hub = .ready) } } := by
  unfold State.trunkLost
  by_cases off : s.beat.limit = 0
  · simp [off]
  · by_cases ready : s.hub = .ready <;> simp [off, ready, State.beatExpire, State.flagHub]

/-- Settles O14: both losses of an UP link are the one loss of the Trunk Port. -/
theorem trunkLossKeepsEveryRecord : Obligations.TrunkLossKeepsEveryRecord := by
  intro s c target released up named
  have lost : exec c s = .next (s.trunkLost target) := by
    rcases named with ⟨rfl, rfl⟩ | ⟨rfl, rfl⟩
    · simp only [exec, execTrunkSymbolLockLoss]
      rw [live_released s released]
      simp only [up]
    · simp only [exec, execMainframeRestart]
      rw [live_released s released, if_pos up]
  refine ⟨_, lost, ?_⟩
  rw [State.trunkLost_eq]
  rfl

theorem receives_of (receiving : Receiving s) : s.receives = true := decide_eq_true receiving.2

/-- Settles O15: each arrival by the link, the hub state and the count of outstanding requests. -/
theorem trunkArrivalsAreTakenOrCounted : Obligations.TrunkArrivalsAreTakenOrCounted := by
  intro s r released
  simp only [exec, execTrunkFrameCheckFail, execTrunkUnknownKind, execSelftestFrameDiscard, execCtrl]
  rw [live_released s released, live_released s released, live_released s released, live_released s released]
  refine ⟨fun up => by rw [if_pos up]; rfl, fun receiving => by rw [if_pos (receives_of receiving)]; rfl, fun testing => ?_, rfl,
    fun receiving few => by rw [if_pos (receives_of receiving), if_pos few],
    fun receiving full => by rw [if_pos (receives_of receiving), if_neg (Nat.not_lt.mpr full)]; rfl⟩
  rw [if_neg (by simp [State.receives, testing])]

/-! ### The heartbeat -/

/-- Settles O16: a BEAT, an expiry in READY and in HOLDOVER, and the conditions of RESUME. -/
theorem heartbeatHoldoverAndResume : Obligations.HeartbeatHoldoverAndResume := by
  intro s started r rest
  refine ⟨fun receiving => ?_, fun released awake on started => ?_, fun asked empty holdover seen => ?_, fun asked empty other => ?_,
    fun asked full => ?_⟩
  · simp only [exec, execBeat]
    rw [live_released s receiving.1, if_pos (receives_of receiving)]
  · simp only [exec, execBeatExpiry]
    rw [live_released s released]
    simp only [State.beatDue, on, awake, or_self, if_false, started, Option.map_some, Option.elim_some]
    cases hub : s.hub with
    | selftest => exact absurd hub awake
    | ready => simp [State.beatExpire, State.reach, State.flagHub, hub]; rfl
    | holdover => simp [State.beatExpire, State.reach, hub]; rfl
  · refine live_answered asked (answer := accept { (intakeLeft s rest).flagHub with hub := .ready }) ?_
    have both : (intakeLeft s rest).hub = .holdover ∧ (intakeLeft s rest).beat.seen = true := ⟨holdover, seen⟩
    rw [resumeAnswer, resumeOperand, if_pos empty]
    simp only [if_pos both]
  · refine live_answered asked (answer := refuse (intakeLeft s rest) .badState) ?_
    have not : ¬((intakeLeft s rest).hub = .holdover ∧ (intakeLeft s rest).beat.seen = true) := by
      rintro ⟨holdover, seen⟩
      rcases other with ready | unseen
      · exact absurd (holdover.symm.trans ready) (by decide)
      · exact absurd (seen.symm.trans unseen) (by decide)
    rw [resumeAnswer, resumeOperand, if_pos empty]
    simp only [if_neg not]
  · refine live_answered asked (answer := refuse (intakeLeft s rest) .badRequest) ?_
    rw [resumeAnswer, resumeOperand, if_neg full]

end Sys2Proof.Machine
end

section
/-! Requests answered, and the reads of hub, profiles and sites (R13, R121, R122, R175 to R178, R181, R182, R195). -/
namespace Sys2Proof.Machine

open Sys2Proof.Safety

variable {s t u : State} {i : SiteIx} {r : CtrlRequest} {rest : List CtrlRequest} {kind : Byte}

/-! ### Effects of requests -/

/-- What leaves the Report Queue, the Management Agent and the clock as they are. -/
structure Unanswered (s t : State) : Prop where
  queue : t.report.queue = s.report.queue
  agent : t.agent = s.agent
  clock : t.clock = s.clock

theorem Unanswered.refl (s : State) : Unanswered s s := ⟨rfl, rfl, rfl⟩

theorem Unanswered.trans (h : Unanswered s t) (h' : Unanswered t u) : Unanswered s u :=
  ⟨h'.queue.trans h.queue, h'.agent.trans h.agent, h'.clock.trans h.clock⟩

theorem unanswered_modSite (f : Site → Site) : Unanswered s (s.modSite i f) := ⟨rfl, rfl, rfl⟩

theorem unanswered_dropped (rs : List BankRef) (f : Site → Site) : Unanswered s ((s.dropRefs rs).modSite i f) := by
  refine Unanswered.trans (t := s.dropRefs rs) ?_ (unanswered_modSite f)
  rw [State.dropRefs_frame]
  exact ⟨rfl, rfl, rfl⟩

theorem unanswered_readFlow (s : State) : Unanswered s s.readFlow :=
  ⟨s.queue_readFlow, s.agent_readFlow, s.clock_readFlow⟩

theorem unanswered_recordCause (c : Cause) : Unanswered s (s.recordCause i c) := by
  rw [State.recordCause_eq]
  exact unanswered_modSite _

theorem unanswered_raiseCauseQuiet (c : Cause) : Unanswered s (s.raiseCauseQuiet i c) := by
  have recorded := unanswered_recordCause (s := s) (i := i) c
  have retired : Unanswered (s.recordCause i c) ((s.recordCause i c).retire i) := by
    rw [State.retire_eq]; exact unanswered_modSite _
  have drained : Unanswered (s.recordCause i c) ((s.recordCause i c).startDrain i) := by
    rw [State.startDrain_eq]; exact unanswered_dropped _ _
  have abandoned : Unanswered (s.recordCause i c) ((s.recordCause i c).abandon i) := by
    rw [State.abandon_eq]; exact unanswered_dropped _ _
  unfold State.raiseCauseQuiet
  split
  · exact recorded.trans retired
  · exact recorded.trans retired
  · exact recorded.trans retired
  · exact recorded.trans retired
  · exact recorded.trans drained
  · exact recorded.trans abandoned
  · exact recorded.trans abandoned
  · exact recorded

theorem unanswered_raiseCause (c : Cause) : Unanswered s (s.raiseCause i c) :=
  (unanswered_raiseCauseQuiet c).trans (unanswered_readFlow _)

theorem unanswered_setMode (m : SiteMode) : Unanswered s (s.setMode i m) := by
  have disabled : Unanswered s (s.disable i) := by rw [State.disable_eq]; exact unanswered_modSite _
  have up : Unanswered s (s.bringUp i m) := by rw [State.bringUp_eq]; exact unanswered_modSite _
  unfold State.setMode
  split
  case h_2 => exact up
  case h_4 => exact up
  case h_3 | h_5 | h_6 | h_7 => exact disabled
  case h_8 | h_9 | h_10 => exact unanswered_modSite _
  all_goals exact .refl s

theorem unanswered_setRetireOption (b : Bool) : Unanswered s (s.setRetireOption i b) := by
  unfold State.setRetireOption
  simp only
  split
  · exact (unanswered_modSite _).trans (unanswered_raiseCause _)
  · exact unanswered_modSite _

theorem unanswered_applyOptions (o : SiteOptions) : Unanswered s (s.applyOptions i o) := by
  rw [State.applyOptions_eq]
  refine Unanswered.trans (t := o.retire.elim s (s.setRetireOption i)) ?_ (unanswered_modSite _)
  cases o.retire with
  | none => exact .refl s
  | some b => exact unanswered_setRetireOption b

/-- What every effect of a request keeps, and that a refusal changes nothing (R175, R177). -/
structure Effect (s : State) (a : Answer) : Prop where
  kept : Unanswered s a.after
  refused : a.code ≠ .ok → a.after = s

theorem effect_refuse (code : RespCode) : Effect s (refuse s code) := ⟨.refl s, fun _ => rfl⟩

theorem effect_accept (h : Unanswered s t) : Effect s (accept t) := ⟨h, fun other => absurd rfl other⟩

theorem effect_acceptWith (h : Unanswered s t) (items : List Item) : Effect s (acceptWith t items) :=
  ⟨h, fun other => absurd rfl other⟩

/-- A read changes nothing. -/
theorem effect_read {a : Answer} (same : a.after = s) : Effect s a := ⟨by rw [same]; exact .refl s, fun _ => same⟩

theorem effect_setHub (r : CtrlRequest) (s : State) : Effect s (setHubAnswer r s) := by
  unfold setHubAnswer
  split
  · refine effect_acceptWith ?_ _
    exact ⟨rfl, rfl, rfl⟩
  · exact effect_refuse _

theorem effect_writeProfile (r : CtrlRequest) (s : State) : Effect s (writeProfileAnswer r s) := by
  unfold writeProfileAnswer
  split
  · exact effect_refuse _
  · split
    · exact effect_refuse _
    · split
      · exact effect_refuse _
      · split
        · exact effect_refuse _
        · split
          · exact effect_refuse _
          · exact effect_accept ⟨rfl, rfl, rfl⟩

theorem effect_swapProfile (r : CtrlRequest) (s : State) : Effect s (swapProfileAnswer r s) := by
  unfold swapProfileAnswer
  split
  · exact effect_refuse _
  · split
    · exact effect_accept (.refl s)
    · split
      · exact effect_read rfl
      · split
        · exact effect_refuse _
        · exact effect_accept ⟨rfl, rfl, rfl⟩

theorem effect_setSite (r : CtrlRequest) (s : State) : Effect s (setSiteAnswer r s) := by
  unfold setSiteAnswer
  split
  · exact effect_refuse _
  · rename_i mode _ _
    split
    · exact effect_refuse _
    · split
      · exact effect_refuse _
      · refine effect_acceptWith (Unanswered.trans ?_ (unanswered_applyOptions _)) _
        cases mode with
        | none => exact .refl s
        | some m => exact unanswered_setMode m

theorem effect_setPair (r : CtrlRequest) (s : State) : Effect s (setPairAnswer r s) := by
  unfold setPairAnswer
  split
  · exact effect_refuse _
  · split
    · exact effect_refuse _
    · split
      · exact effect_refuse _
      · refine effect_acceptWith ?_ _
        exact ⟨rfl, rfl, rfl⟩

theorem effect_joinSite (r : CtrlRequest) (s : State) : Effect s (joinSiteAnswer r s) := by
  unfold joinSiteAnswer
  split
  · exact effect_refuse _
  · split
    · exact effect_refuse _
    · split
      · exact effect_refuse _
      · split
        · exact effect_refuse _
        · split
          · exact effect_refuse _
          · rw [State.join_eq]
            exact effect_accept (unanswered_modSite _)

theorem effect_retireSite (r : CtrlRequest) (s : State) : Effect s (retireSiteAnswer r s) := by
  unfold retireSiteAnswer
  split
  · exact effect_refuse _
  · split
    · exact effect_acceptWith (unanswered_raiseCause _) _
    · exact effect_acceptWith (unanswered_raiseCause _) _
    · exact effect_acceptWith (unanswered_raiseCause _) _
    · exact effect_refuse _

theorem effect_clearSite (r : CtrlRequest) (s : State) : Effect s (clearSiteAnswer r s) := by
  unfold clearSiteAnswer
  split
  · exact effect_refuse _
  · split
    · rw [State.clearRetired_eq]
      exact effect_acceptWith (unanswered_modSite _) _
    · exact effect_refuse _

theorem effect_releaseSite (r : CtrlRequest) (s : State) : Effect s (releaseSiteAnswer r s) := by
  unfold releaseSiteAnswer
  split
  · exact effect_refuse _
  · split
    · rw [State.release_eq]
      exact effect_accept (unanswered_modSite _)
    · exact effect_refuse _

theorem effect_resume (r : CtrlRequest) (s : State) : Effect s (resumeAnswer r s) := by
  unfold resumeAnswer
  split
  · exact effect_refuse _
  · split
    · exact effect_accept ⟨rfl, rfl, rfl⟩
    · exact effect_refuse _

/-- The fifteen answered requests, each by its effect (R175). -/
theorem exec_request {c : Instr} (named : (c, kind) ∈ ([(.getHub, 2), (.setHub, 3), (.writeProfile, 4), (.readProfile, 5),
      (.swapProfile, 6), (.setSite, 7), (.setPair, 8), (.joinSite, 9), (.retireSite, 10), (.clearSite, 11), (.releaseSite, 12),
      (.readSite, 13), (.readRegion, 14), (.readCells, 15), (.resume, 16)] : List (Instr × Byte))) :
    c ≠ .unknownRequestKind ∧ ∃ effect : CtrlRequest → State → Answer,
      (∀ s : State, exec c s = live s fun s => s.takeRequest kind effect) ∧ ∀ (r : CtrlRequest) (s : State), Effect s (effect r s) := by
  simp only [List.mem_cons, Prod.mk.injEq, List.not_mem_nil, or_false] at named
  rcases named with ⟨rfl, rfl⟩ | ⟨rfl, rfl⟩ | ⟨rfl, rfl⟩ | ⟨rfl, rfl⟩ | ⟨rfl, rfl⟩ | ⟨rfl, rfl⟩ | ⟨rfl, rfl⟩ | ⟨rfl, rfl⟩ |
    ⟨rfl, rfl⟩ | ⟨rfl, rfl⟩ | ⟨rfl, rfl⟩ | ⟨rfl, rfl⟩ | ⟨rfl, rfl⟩ | ⟨rfl, rfl⟩ | ⟨rfl, rfl⟩
  · exact ⟨nofun, getHubAnswer, fun _ => rfl, fun r s => effect_read (after_getHub r s)⟩
  · exact ⟨nofun, setHubAnswer, fun _ => rfl, effect_setHub⟩
  · exact ⟨nofun, writeProfileAnswer, fun _ => rfl, effect_writeProfile⟩
  · exact ⟨nofun, readProfileAnswer, fun _ => rfl, fun r s => effect_read (after_readProfile r s)⟩
  · exact ⟨nofun, swapProfileAnswer, fun _ => rfl, effect_swapProfile⟩
  · exact ⟨nofun, setSiteAnswer, fun _ => rfl, effect_setSite⟩
  · exact ⟨nofun, setPairAnswer, fun _ => rfl, effect_setPair⟩
  · exact ⟨nofun, joinSiteAnswer, fun _ => rfl, effect_joinSite⟩
  · exact ⟨nofun, retireSiteAnswer, fun _ => rfl, effect_retireSite⟩
  · exact ⟨nofun, clearSiteAnswer, fun _ => rfl, effect_clearSite⟩
  · exact ⟨nofun, releaseSiteAnswer, fun _ => rfl, effect_releaseSite⟩
  · exact ⟨nofun, readSiteAnswer, fun _ => rfl, fun r s => effect_read (after_readSite r s)⟩
  · exact ⟨nofun, readRegionAnswer, fun _ => rfl, fun r s => effect_read (after_readRegion r s)⟩
  · exact ⟨nofun, readCellsAnswer, fun _ => rfl, fun r s => effect_read (after_readCells r s)⟩
  · exact ⟨nofun, resumeAnswer, fun _ => rfl, effect_resume⟩

/-- An answer to the oldest request: one RESPONSE record at the tail, and the request gone. -/
theorem respond_answered (kept : Unanswered (intakeLeft s rest) t) (code : RespCode) (data : Option (List Item)) :
    (t.respond r code data).report.queue
        = s.report.queue ++ [⟨.response ⟨r.id, r.kind, code, data, s.agent.overflowPending⟩, s.clock⟩]
      ∧ (t.respond r code data).agent = { s.agent with intake := rest, overflowPending := false } := by
  obtain ⟨queue, agent, clock⟩ := kept
  rw [State.respond, State.queue_enqueue, State.agent_enqueue]
  simp only [queue, agent, clock]
  exact ⟨rfl, rfl⟩

/-- An answer that changes nothing else but what the Flow Monitor reads. -/
theorem respond_refused (code : RespCode) (data : Option (List Item)) : (intakeLeft s rest).respond r code data =
    ({ s with
      agent := ((intakeLeft s rest).respond r code data).agent
      report := { s.report with queue := ((intakeLeft s rest).respond r code data).report.queue } } : State).readFlow := by
  obtain ⟨queue, agent⟩ := respond_answered (s := s) (rest := rest) (r := r) (.refl _) code data
  rw [queue, agent]
  rfl

theorem not_mem_requestKinds (unknown : kind = 0 ∨ 16 < kind.toNat) : kind ∉ requestKinds := by
  intro known
  have range : 1 ≤ kind.toNat ∧ kind.toNat ≤ 16 := by
    revert known
    have all : ∀ k ∈ requestKinds, 1 ≤ k.toNat ∧ k.toNat ≤ 16 := by decide
    exact all kind
  rcases unknown with rfl | large
  · exact absurd range.1 (by decide)
  · omega

/-- Settles O22: every effect keeps queue, agent and clock, and the answer adds its record. -/
theorem everyRequestIsAnsweredOnce : Obligations.EveryRequestIsAnsweredOnce := by
  rintro s c kind r rest asked (named | ⟨rfl, unknown⟩)
  · obtain ⟨known, effect, runs, keeps⟩ := exec_request named
    obtain ⟨kept, refused⟩ := keeps r (intakeLeft s rest)
    obtain ⟨queue, agent⟩ := respond_answered (r := r) kept (effect r (intakeLeft s rest)).code (effect r (intakeLeft s rest)).data
    rw [asked.2.2] at queue
    refine ⟨_, _, _, (runs s).trans (live_takeRequest asked effect), queue, agent, fun other => ?_, fun e => absurd e known⟩
    rw [refused other]
    exact respond_refused _ _
  · obtain ⟨released, intake, same⟩ := asked
    have taken : s.oldestRequest (fun k => decide (k ∉ requestKinds)) = some (r, intakeLeft s rest) := by
      rw [State.oldestRequest, intake]
      simp only
      rw [same, if_pos (decide_eq_true (not_mem_requestKinds unknown))]
      rfl
    have answered : exec .unknownRequestKind s = .next ((intakeLeft s rest).respond r .badRequest none) := by
      simp only [exec, execUnknownRequestKind]
      rw [live_released s released]
      simp only [taken]
    obtain ⟨queue, agent⟩ := respond_answered (s := s) (rest := rest) (r := r) (.refl _) .badRequest none
    rw [same] at queue
    exact ⟨_, _, _, answered, queue, agent, fun _ => respond_refused _ _, fun _ => rfl⟩

end Sys2Proof.Machine
end

section
/-! The reads: what GET_HUB, READ_PROFILE, READ_SITE, READ_REGION and READ_CELLS answer, and which bodies they refuse (R13, R121,
R122, R178, R181, R182, R195). -/
namespace Sys2Proof.Machine

open Sys2Proof.Safety

variable {s t : State} {i : SiteIx} {r : CtrlRequest} {rest : List CtrlRequest} {kind : Byte}

/-! ### Indexes of one byte -/

theorem toNat_append_zero (b : Byte) : ((0 : Byte) ++ b).toNat = b.toNat := by
  rw [← beNat_two]
  simp [beNat]

theorem toNat_append_ofNat {n : Nat} (small : n < 256) : ((0 : Byte) ++ BitVec.ofNat 8 n).toNat = n := by
  rw [toNat_append_zero, BitVec.toNat_ofNat, Nat.mod_eq_of_lt small]

/-- A number of two bytes below 256 has a high byte of 0. -/
theorem bytes_of_small {hi lo : Byte} (small : (hi ++ lo).toNat < 256) : hi = 0 ∧ lo.toNat = (hi ++ lo).toNat := by
  rw [← beNat_two] at small ⊢
  simp only [beNat, List.foldl_cons, List.foldl_nil, Nat.zero_mul, Nat.zero_add] at small ⊢
  have zero : hi.toNat = 0 := by omega
  refine ⟨BitVec.eq_of_toNat_eq zero, ?_⟩
  rw [zero]
  omega

/-- The two bytes of an index below 256. -/
theorem bytes_of_index {hi lo : Byte} {n : Nat} (index : n = (hi ++ lo).toNat) (small : n < 256) : hi = 0 ∧ lo = BitVec.ofNat 8 n := by
  obtain ⟨zero, low⟩ := bytes_of_small (index ▸ small)
  refine ⟨zero, ?_⟩
  rw [index, ← low, BitVec.ofNat_toNat, BitVec.setWidth_eq]

theorem numItem_index {n : Nat} (small : n < 256) : numItem 2 [0, BitVec.ofNat 8 n] = some n := by
  rw [numItem_two, toNat_append_ofNat small]

theorem siteOf_eq_some {n : Nat} {i : SiteIx} (h : siteOf n = some i) : n = i.val := by
  unfold siteOf at h
  split at h
  · cases h; rfl
  · cases h

theorem profileOf_eq_some {n : Nat} {k : ProfileIx} (h : profileOf n = some k) : n = k.val := by
  unfold profileOf at h
  split at h
  · cases h; rfl
  · cases h

theorem regionIndexOf_eq_some {n : Nat} {g : RegionIx} (h : regionIndexOf n = some g) : n = g.val := by
  unfold regionIndexOf at h
  split at h
  · cases h; rfl
  · cases h

/-! ### GET_HUB and READ_PROFILE -/

theorem getHubOperand_part {c : Byte} (body : r.body = [1, c]) : getHubOperand r =
    if c = 1 then some .state else if c = 2 then some .counts else if c = 3 then some .settings else none := by
  rw [getHubOperand, bodyItems_sent (items := [[c]]) (by simp) body]

theorem getHubOperand_none (other : r.body ∉ ([[1, 1], [1, 2], [1, 3]] : List (List Byte))) : getHubOperand r = none := by
  unfold getHubOperand
  split
  · rename_i c items
    have body : r.body = [1, c] := body_of_bodyItems items
    rw [body] at other
    have differs : c ≠ 1 ∧ c ≠ 2 ∧ c ≠ 3 := by simpa using other
    rw [if_neg differs.1, if_neg differs.2.1, if_neg differs.2.2]
  · rfl

theorem bankName_ofCode (name : BankName) : BankName.ofCode name.code = some name := by cases name <;> rfl

theorem bankName_toNat (name : BankName) : (BitVec.ofNat 8 name.code).toNat = name.code := by cases name <;> rfl

theorem bankName_eq_some {b : Byte} {name : BankName} (h : BankName.ofCode b.toNat = some name) : b = BitVec.ofNat 8 name.code := by
  apply BitVec.eq_of_toNat_eq
  rw [bankName_toNat]
  unfold BankName.ofCode at h
  split at h
  · rename_i one; cases h; exact one
  · split at h
    · rename_i two; cases h; exact two
    · cases h

/-- The bytes of a part that READ_PROFILE names. -/
inductive PartSent : ProfileRead → List Byte → Prop
  | geometry : PartSent .geometry [1, 1]
  | map (fh fl ch cl : Byte) : PartSent (.map (fh ++ fl).toNat (ch ++ cl).toNat) [1, 2, 2, fh, fl, 2, ch, cl]
  | topology : PartSent .topology [1, 3]

/-- A body that READ_PROFILE reads is a profile index, a bank code and the bytes of a part. -/
theorem readProfileOperands_eq_some {n : Nat} {name : BankName} {part : ProfileRead}
    (h : readProfileOperands r = some (n, name, part)) :
    ∃ (hi lo : Byte) (tail : List Byte), n = (hi ++ lo).toNat ∧ PartSent part tail
      ∧ r.body = [2, hi, lo, 1, BitVec.ofNat 8 name.code] ++ tail := by
  unfold readProfileOperands at h
  split at h
  · rename_i profile bank items
    simp only [Option.bind_eq_bind, Option.pure_def, Option.bind_eq_some_iff, Option.some.injEq, Prod.mk.injEq] at h
    obtain ⟨_, index, _, code, rfl, rfl, rfl⟩ := h
    obtain ⟨hi, lo, rfl, value⟩ := numItem_eq_some index
    refine ⟨hi, lo, _, value, .geometry, ?_⟩
    rw [body_of_bodyItems items, ← bankName_eq_some code]
    rfl
  · rename_i profile bank first count items
    simp only [Option.bind_eq_bind, Option.pure_def, Option.bind_eq_some_iff, Option.some.injEq, Prod.mk.injEq] at h
    obtain ⟨_, index, _, code, _, low, _, many, rfl, rfl, rfl⟩ := h
    obtain ⟨hi, lo, rfl, value⟩ := numItem_eq_some index
    obtain ⟨fh, fl, rfl, rfl⟩ := numItem_eq_some low
    obtain ⟨ch, cl, rfl, rfl⟩ := numItem_eq_some many
    refine ⟨hi, lo, _, value, .map fh fl ch cl, ?_⟩
    rw [body_of_bodyItems items, ← bankName_eq_some code]
    rfl
  · rename_i profile bank items
    simp only [Option.bind_eq_bind, Option.pure_def, Option.bind_eq_some_iff, Option.some.injEq, Prod.mk.injEq] at h
    obtain ⟨_, index, _, code, rfl, rfl, rfl⟩ := h
    obtain ⟨hi, lo, rfl, value⟩ := numItem_eq_some index
    refine ⟨hi, lo, _, value, .topology, ?_⟩
    rw [body_of_bodyItems items, ← bankName_eq_some code]
    rfl
  · cases h

/-- The items of a READ_PROFILE body. -/
theorem readProfileOperands_geometry {k : ProfileIx} {name : BankName}
    (body : r.body = [2, 0, BitVec.ofNat 8 k.val, 1, BitVec.ofNat 8 name.code, 1, 1]) :
    readProfileOperands r = some (k.val, name, .geometry) := by
  rw [readProfileOperands, bodyItems_sent (items := [[0, BitVec.ofNat 8 k.val], [BitVec.ofNat 8 name.code], [1]]) (by simp) body]
  show ((numItem 2 _).bind fun n => (BankName.ofCode _).bind fun m => some (n, m, ProfileRead.geometry)) = _
  rw [numItem_index (show k.val < 256 by omega), bankName_toNat, bankName_ofCode]
  rfl

theorem readProfileOperands_map {k : ProfileIx} {name : BankName} {first count : Byte}
    (body : r.body = [2, 0, BitVec.ofNat 8 k.val, 1, BitVec.ofNat 8 name.code, 1, 2, 2, 0, first, 2, 0, count]) :
    readProfileOperands r = some (k.val, name, .map first.toNat count.toNat) := by
  rw [readProfileOperands, bodyItems_sent (items := [[0, BitVec.ofNat 8 k.val], [BitVec.ofNat 8 name.code], [2], [0, first],
    [0, count]]) (by simp) body]
  show ((numItem 2 _).bind fun n => (BankName.ofCode _).bind fun m => (numItem 2 _).bind fun f => (numItem 2 _).bind fun c =>
    some (n, m, ProfileRead.map f c)) = _
  rw [numItem_index (show k.val < 256 by omega), bankName_toNat, bankName_ofCode, numItem_two, numItem_two, toNat_append_zero,
    toNat_append_zero]
  rfl

theorem readProfileOperands_topology {k : ProfileIx} {name : BankName}
    (body : r.body = [2, 0, BitVec.ofNat 8 k.val, 1, BitVec.ofNat 8 name.code, 1, 3]) :
    readProfileOperands r = some (k.val, name, .topology) := by
  rw [readProfileOperands, bodyItems_sent (items := [[0, BitVec.ofNat 8 k.val], [BitVec.ofNat 8 name.code], [3]]) (by simp) body]
  show ((numItem 2 _).bind fun n => (BankName.ofCode _).bind fun m => some (n, m, ProfileRead.topology)) = _
  rw [numItem_index (show k.val < 256 by omega), bankName_toNat, bankName_ofCode]
  rfl

/-- What READ_PROFILE answers to a body that names a profile, a bank and a part. -/
theorem readProfileAnswer_named {k : ProfileIx} {name : BankName} {part : ProfileRead} :
    readProfileOperands r = some (k.val, name, part) → readProfileAnswer r s = match part with
      | .geometry => acceptWith s ((s.profile k).geometryItems name)
      | .map first count =>
        if 1 ≤ count ∧ count ≤ 8 ∧ first + count ≤ 26 then
          acceptWith s (((s.profile k).bank name).tables.mapItems first count)
        else refuse s .badRequest
      | .topology => acceptWith s ((s.profile k).bank name).tables.topologyItems := by
  intro operands
  rw [readProfileAnswer, operands]
  cases part <;> simp only [profileOf_val]

theorem readProfileAnswer_refused
    (other : ∀ (j : ProfileIx) (name : BankName),
      r.body ≠ [2, 0, BitVec.ofNat 8 j.val, 1, BitVec.ofNat 8 name.code, 1, 1]
      ∧ r.body ≠ [2, 0, BitVec.ofNat 8 j.val, 1, BitVec.ofNat 8 name.code, 1, 3]
      ∧ ∀ first count : Byte, 1 ≤ count.toNat → count.toNat ≤ 8 → first.toNat + count.toNat ≤ 26 →
        r.body ≠ [2, 0, BitVec.ofNat 8 j.val, 1, BitVec.ofNat 8 name.code, 1, 2, 2, 0, first, 2, 0, count]) :
    readProfileAnswer r s = refuse s .badRequest := by
  cases operands : readProfileOperands r with
  | none => rw [readProfileAnswer, operands]
  | some named =>
    obtain ⟨n, name, part⟩ := named
    obtain ⟨hi, lo, tail, value, sent, body⟩ := readProfileOperands_eq_some operands
    cases index : profileOf n with
    | none => rw [readProfileAnswer, operands]; simp only [index]
    | some j =>
      have same := profileOf_eq_some index
      obtain ⟨rfl, rfl⟩ := bytes_of_index value (by omega)
      rw [same] at body operands
      obtain ⟨noGeometry, noTopology, noMap⟩ := other j name
      rw [readProfileAnswer_named operands]
      cases sent with
      | geometry => exact absurd body noGeometry
      | topology => exact absurd body noTopology
      | map fh fl ch cl =>
        simp only
        split
        · rename_i range
          obtain ⟨some, few, inside⟩ := range
          obtain ⟨rfl, first⟩ := bytes_of_small (hi := fh) (lo := fl) (by omega)
          obtain ⟨rfl, count⟩ := bytes_of_small (hi := ch) (lo := cl) (by omega)
          exact absurd body (noMap fl cl (by omega) (by omega) (by omega))
        · rfl

/-- Settles O23: each named body answers its items, and a body that READ_PROFILE answers is one of the three forms. -/
theorem hubAndProfileReadsAnswerWhatIsHeld : Obligations.HubAndProfileReadsAnswerWhatIsHeld := by
  intro s r rest k name b bank
  refine ⟨fun asked => ⟨fun body => ?_, fun body => ?_, fun body => ?_, fun other => ?_⟩,
    fun asked => ⟨fun body => ?_, fun first count some few inside body => ?_, fun body => ?_, fun other => ?_⟩⟩
  · refine live_answered asked (effect := getHubAnswer) (answer := acceptWith (intakeLeft s rest) (intakeLeft s rest).stateItems) ?_
    rw [getHubAnswer, getHubOperand_part body, if_pos rfl]
  · refine live_answered asked (effect := getHubAnswer) (answer := acceptWith (intakeLeft s rest) (intakeLeft s rest).countItems) ?_
    rw [getHubAnswer, getHubOperand_part body, if_neg (by decide), if_pos rfl]
  · refine live_answered asked (effect := getHubAnswer) (answer := acceptWith (intakeLeft s rest) (intakeLeft s rest).settingItems) ?_
    rw [getHubAnswer, getHubOperand_part body, if_neg (by decide), if_neg (by decide), if_pos rfl]
  · refine live_answered asked (effect := getHubAnswer) (answer := refuse (intakeLeft s rest) .badRequest) ?_
    rw [getHubAnswer, getHubOperand_none other]
  · subst bank
    exact live_answered asked (readProfileAnswer_named (readProfileOperands_geometry body))
  · subst bank
    refine live_answered asked (effect := readProfileAnswer)
      (answer := acceptWith (intakeLeft s rest) (((s.profile k).bank name).tables.mapItems first.toNat count.toNat)) ?_
    rw [readProfileAnswer_named (readProfileOperands_map body)]
    exact if_pos ⟨some, few, inside⟩
  · subst bank
    exact live_answered asked (readProfileAnswer_named (readProfileOperands_topology body))
  · exact live_answered asked (readProfileAnswer_refused other)

/-! ### READ_SITE, READ_REGION and READ_CELLS -/

/-- The part of READ_SITE that a code names. -/
def partOf (c : Byte) : Option SitePart :=
  if c = 1 then some .status else if c = 2 then some .pattern else if c = 3 then some .fails
  else if c = 4 then some .supply else if c = 5 then some .config else none

theorem partOf_range {c : Byte} {part : SitePart} (h : partOf c = some part) : 1 ≤ c.toNat ∧ c.toNat ≤ 5 := by
  unfold partOf at h
  split at h
  · rename_i e; subst e; decide
  split at h
  · rename_i e; subst e; decide
  split at h
  · rename_i e; subst e; decide
  split at h
  · rename_i e; subst e; decide
  split at h
  · rename_i e; subst e; decide
  cases h

theorem readSiteOperands_items {site : List Byte} {c : Byte} (items : bodyItems r = some [site, [c]]) :
    readSiteOperands r = (numItem 2 site).bind fun i => (partOf c).map fun part => (i, part) := by
  rw [readSiteOperands, items]
  cases index : numItem 2 site with
  | none => simp [index]
  | some i =>
    simp only [partOf, index, Option.bind_eq_bind, Option.bind_some, apply_ite (Option.map fun part => (i, part))]
    rfl

theorem readSiteOperands_eq_some {n : Nat} {part : SitePart} (h : readSiteOperands r = some (n, part)) :
    ∃ hi lo c : Byte, n = (hi ++ lo).toNat ∧ partOf c = some part ∧ r.body = [2, hi, lo, 1, c] := by
  have read : ∃ (site : List Byte) (c : Byte), bodyItems r = some [site, [c]] := by
    unfold readSiteOperands at h
    split at h
    · rename_i site c items; exact ⟨site, c, items⟩
    · cases h
  obtain ⟨site, c, items⟩ := read
  rw [readSiteOperands_items items] at h
  obtain ⟨i, index, h⟩ := Option.bind_eq_some_iff.mp h
  obtain ⟨part, named, h⟩ := Option.map_eq_some_iff.mp h
  cases h
  obtain ⟨hi, lo, rfl, value⟩ := numItem_eq_some index
  exact ⟨hi, lo, c, value, named, body_of_bodyItems items⟩

theorem readSiteAnswer_named {c : Byte} {part : SitePart} (body : r.body = [2, 0, BitVec.ofNat 8 i.val, 1, c])
    (named : partOf c = some part) : readSiteAnswer r s = acceptWith s ((s.site i).partItems part) := by
  rw [readSiteAnswer, readSiteOperands_items (bodyItems_sent (items := [[0, BitVec.ofNat 8 i.val], [c]]) (by simp) body), named,
    numItem_index (by omega)]
  simp only [Option.bind_some, Option.map_some, siteOf_val]

theorem readSiteAnswer_refused (other : ∀ (j : SiteIx) (c : Byte), 1 ≤ c.toNat → c.toNat ≤ 5 →
      r.body ≠ [2, 0, BitVec.ofNat 8 j.val, 1, c]) : readSiteAnswer r s = refuse s .badRequest := by
  unfold readSiteAnswer
  split
  · rfl
  · rename_i n part operands
    obtain ⟨hi, lo, c, value, named, body⟩ := readSiteOperands_eq_some operands
    split
    · rfl
    · rename_i j index
      have same := siteOf_eq_some index
      obtain ⟨rfl, rfl⟩ := bytes_of_index value (by omega)
      rw [same] at body
      obtain ⟨one, five⟩ := partOf_range named
      exact absurd body (other j c one five)

theorem readRegionOperands_eq_some {n m : Nat} (h : readRegionOperands r = some (n, m)) :
    ∃ hi lo rh rl : Byte, n = (hi ++ lo).toNat ∧ m = (rh ++ rl).toNat ∧ r.body = [2, hi, lo, 2, rh, rl] := by
  unfold readRegionOperands at h
  split at h
  · rename_i site region items
    simp only [Option.bind_eq_bind, Option.pure_def, Option.bind_eq_some_iff, Option.some.injEq, Prod.mk.injEq] at h
    obtain ⟨_, index, _, row, rfl, rfl⟩ := h
    obtain ⟨hi, lo, rfl, value⟩ := numItem_eq_some index
    obtain ⟨rh, rl, rfl, which⟩ := numItem_eq_some row
    exact ⟨hi, lo, rh, rl, value, which, body_of_bodyItems items⟩
  · cases h

theorem readRegionAnswer_named {g : RegionIx} (body : r.body = [2, 0, BitVec.ofNat 8 i.val, 2, 0, BitVec.ofNat 8 g.val]) :
    readRegionAnswer r s = acceptWith s (s.site i).regions[g].items := by
  rw [readRegionAnswer, readRegionOperands,
    bodyItems_sent (items := [[0, BitVec.ofNat 8 i.val], [0, BitVec.ofNat 8 g.val]]) (by simp) body]
  simp only [numItem_index (show i.val < 256 by omega), numItem_index (show g.val < 256 by omega), Option.bind_eq_bind,
    Option.bind_some, Option.pure_def, siteOf_val, regionIndexOf_val]

theorem readRegionAnswer_refused (other : ∀ (j : SiteIx) (h : RegionIx),
      r.body ≠ [2, 0, BitVec.ofNat 8 j.val, 2, 0, BitVec.ofNat 8 h.val]) : readRegionAnswer r s = refuse s .badRequest := by
  unfold readRegionAnswer
  split
  · rfl
  · rename_i n m operands
    obtain ⟨hi, lo, rh, rl, value, which, body⟩ := readRegionOperands_eq_some operands
    split
    · rename_i j h site region
      have same := siteOf_eq_some site
      have place := regionIndexOf_eq_some region
      obtain ⟨rfl, rfl⟩ := bytes_of_index value (by omega)
      obtain ⟨rfl, rfl⟩ := bytes_of_index which (by omega)
      rw [same, place] at body
      exact absurd body (other j h)
    · rfl

theorem readCellsOperands_eq_some {n m k : Nat} (h : readCellsOperands r = some (n, m, k)) :
    ∃ hi lo rh rl top low : Byte, n = (hi ++ lo).toNat ∧ m = (rh ++ rl).toNat ∧ r.body = [2, hi, lo, 2, rh, rl, 2, top, low] := by
  unfold readCellsOperands at h
  split at h
  · rename_i site region start items
    simp only [Option.bind_eq_bind, Option.pure_def, Option.bind_eq_some_iff, Option.some.injEq, Prod.mk.injEq] at h
    obtain ⟨_, index, _, row, _, first, rfl, rfl, rfl⟩ := h
    obtain ⟨hi, lo, rfl, value⟩ := numItem_eq_some index
    obtain ⟨rh, rl, rfl, which⟩ := numItem_eq_some row
    obtain ⟨top, low, rfl, -⟩ := numItem_eq_some first
    exact ⟨hi, lo, rh, rl, top, low, value, which, body_of_bodyItems items⟩
  · cases h

/-- The high byte of a start index is ignored (R194). -/
theorem toNat_append_mod (hi lo : Byte) : (hi ++ lo).toNat % 256 = lo.toNat := by
  rw [← beNat_two]
  simp only [beNat, List.foldl_cons, List.foldl_nil, Nat.zero_mul, Nat.zero_add]
  omega

theorem readCellsAnswer_named {g : RegionIx} {high start : Byte}
    (body : r.body = [2, 0, BitVec.ofNat 8 i.val, 2, 0, BitVec.ofNat 8 g.val, 2, high, start]) :
    readCellsAnswer r s = acceptWith s ((((s.site i).regions[g].cells.drop start.toNat).take 8).map Cell.item) := by
  rw [readCellsAnswer, readCellsOperands,
    bodyItems_sent (items := [[0, BitVec.ofNat 8 i.val], [0, BitVec.ofNat 8 g.val], [high, start]]) (by simp) body]
  simp only [numItem_index (show i.val < 256 by omega), numItem_index (show g.val < 256 by omega), numItem_two high,
    Option.bind_eq_bind, Option.bind_some, Option.pure_def, siteOf_val, regionIndexOf_val, toNat_append_mod]

theorem readCellsAnswer_refused (other : ∀ (j : SiteIx) (h : RegionIx) (top low : Byte),
      r.body ≠ [2, 0, BitVec.ofNat 8 j.val, 2, 0, BitVec.ofNat 8 h.val, 2, top, low]) :
    readCellsAnswer r s = refuse s .badRequest := by
  unfold readCellsAnswer
  split
  · rfl
  · rename_i n m k operands
    obtain ⟨hi, lo, rh, rl, top, low, value, which, body⟩ := readCellsOperands_eq_some operands
    split
    · rename_i j h site region
      have same := siteOf_eq_some site
      have place := regionIndexOf_eq_some region
      obtain ⟨rfl, rfl⟩ := bytes_of_index value (by omega)
      obtain ⟨rfl, rfl⟩ := bytes_of_index which (by omega)
      rw [same, place] at body
      exact absurd body (other j h top low)
    · rfl

/-- Settles O24: each named body answers its items, and every body that is answered has the named form. -/
theorem siteReadsAnswerWhatIsHeld : Obligations.SiteReadsAnswerWhatIsHeld := by
  intro s r rest i g x y part high start site region
  subst site region
  refine ⟨fun asked other => ?_, fun asked other => ?_, fun asked other => ?_, fun asked body => ?_, fun asked body => ?_,
    fun asked body => ?_⟩
  · exact live_answered asked (readSiteAnswer_refused other)
  · exact live_answered asked (readRegionAnswer_refused other)
  · exact live_answered asked (readCellsAnswer_refused other)
  · refine ⟨?_, ?_, ?_, ?_, ?_⟩ <;> rintro rfl
    · exact live_answered asked (readSiteAnswer_named (part := .status) body (by decide))
    · exact live_answered asked (readSiteAnswer_named (part := .pattern) body (by decide))
    · exact live_answered asked (readSiteAnswer_named (part := .fails) body (by decide))
    · exact live_answered asked (readSiteAnswer_named (part := .supply) body (by decide))
    · exact live_answered asked (readSiteAnswer_named (part := .config) body (by decide))
  · exact live_answered asked (readRegionAnswer_named body)
  · exact live_answered asked (readCellsAnswer_named body)

end Sys2Proof.Machine
end

section
/-! SET_HUB, WRITE_PROFILE, SWAP_PROFILE and SET_PAIR: what their bodies carry, their conditions in order, and what they change
(R8 to R12, R15, R16, R125, R147, R148, R178, R179). -/
namespace Sys2Proof.Machine

open Sys2Proof.Safety

variable {s t : State} {i : SiteIx} {r : CtrlRequest} {rest : List CtrlRequest} {kind : Byte}

theorem byte_ofNat_small {n : Nat} (small : n < 256) : (BitVec.ofNat 8 n).toNat = n := by
  rw [BitVec.toNat_ofNat, Nat.mod_eq_of_lt small]

/-! ### SET_HUB -/

theorem optItem_some {α : Type} {f : List Byte → Option α} {item : List Byte} {v : α} (full : item ≠ []) (reads : f item = some v) :
    optItem f item = some (some v) := by
  rw [optItem, if_neg full, reads]
  rfl

theorem markSettingItem_sent (m : MarkMode × Byte) : markSettingItem (oneByte m.1.code ++ [m.2]) = some ⟨m.1, m.2.toNat⟩ := by
  obtain ⟨mode, divider⟩ := m
  cases mode <;> rfl

theorem monSelectItem_sent (m : MonSelect) : monSelectItem (oneByte m.codes.1 ++ oneByte m.codes.2) = some m := by
  cases m with
  | site i => match i with
    | 0 | 1 | 2 | 3 | 4 | 5 | 6 | 7 => rfl
  | _ => rfl

theorem optItem_markSetting (setting : Option (MarkMode × Byte)) :
    optItem markSettingItem ((setting.map fun m => oneByte m.1.code ++ [m.2]).getD [])
      = some (setting.map fun m => ⟨m.1, m.2.toNat⟩) := by
  cases setting with
  | none => rfl
  | some m => exact optItem_some (by simp [oneByte]) (markSettingItem_sent m)

theorem optItem_monSelect (mon : Option MonSelect) :
    optItem monSelectItem ((mon.map fun m => oneByte m.codes.1 ++ oneByte m.codes.2).getD []) = some mon := by
  cases mon with
  | none => rfl
  | some m => exact optItem_some (by simp [oneByte]) (monSelectItem_sent m)

/-- Options of short values are short items. -/
theorem short_option {α : Type} {f : α → List Byte} (short : ∀ v : α, (f v).length < 256) (o : Option α) :
    ((o.map f).getD []).length < 256 := by
  cases o with
  | none => exact (by decide : 0 < 256)
  | some v => exact short v

theorem short_twoBytes (v : Half) : (twoBytes v.toNat).length < 256 := (by decide : 2 < 256)

theorem clampTo_zero (hi v : Nat) : clampTo 0 hi v = min v hi := Nat.zero_max _

theorem getD_map_elim {α β : Type} (o : Option α) (f : α → β) (d : β) : (o.map f).getD d = o.elim d f := by
  cases o <;> rfl

/-- The options of SET_HUB written out (R125, R169, R178, R179, R187). -/
theorem State.applyHub_eq (s : State) (o : SetHubOperands) : s.applyHub o = { s with
    report := { s.report with timerSetting := o.timer.elim s.report.timerSetting fun v => min v 255 }
    beat := { s.beat with
      limit := o.beatLimit.elim s.beat.limit fun v => min v 15
      counter := if o.beatLimit.elim s.beat.limit (fun v => min v 15) = s.beat.limit then s.beat.counter
        else if o.beatLimit.elim s.beat.limit (fun v => min v 15) = 0 then none
        else if s.beat.limit = 0 then some s.clock else s.beat.counter }
    marks := { s.marks with
      pendingSetting := o.setting.elim s.marks.pendingSetting fun m => some { m with divider := max 2 (min m.divider 128) }
      monSelect := o.monSelect.getD s.marks.monSelect } } := by
  obtain ⟨timer, limit, setting, mon⟩ := o
  have beat : limit.elim s.beat (fun bl => s.beat.setLimit (clampTo 0 15 bl) s.clock) = { s.beat with
      limit := limit.elim s.beat.limit fun v => min v 15
      counter := if limit.elim s.beat.limit (fun v => min v 15) = s.beat.limit then s.beat.counter
        else if limit.elim s.beat.limit (fun v => min v 15) = 0 then none
        else if s.beat.limit = 0 then some s.clock else s.beat.counter } := by
    cases limit with
    | none => simp
    | some v =>
      simp only [Option.elim_some, BeatDetector.setLimit, clampTo_zero]
      rfl
  have pending : (setting.map MarkSetting.clamped).or s.marks.pendingSetting
      = setting.elim s.marks.pendingSetting fun m => some { m with divider := max 2 (min m.divider 128) } := by
    cases setting <;> rfl
  rw [State.applyHub]
  simp only [beat, pending, getD_map_elim]
  cases timer with
  | none => rfl
  | some v => simp only [Option.elim_some, clampTo_zero]

/-- Settles O25: the four items read back, and each option applied. -/
theorem setHubAppliesItsOptionsClamped : Obligations.SetHubAppliesItsOptionsClamped := by
  refine ⟨fun id kind timer limit setting mon => ?_, fun s r rest asked => ⟨fun none => ?_, ?_⟩⟩
  · have items := bodyItems_sent (r := ⟨id, kind, optionSent (timer.map fun v => twoBytes v.toNat)
        ++ optionSent (limit.map fun v => twoBytes v.toNat) ++ optionSent (setting.map fun m => oneByte m.1.code ++ [m.2])
        ++ optionSent (mon.map fun m => oneByte m.codes.1 ++ oneByte m.codes.2)⟩)
      (items := [(timer.map fun v => twoBytes v.toNat).getD [], (limit.map fun v => twoBytes v.toNat).getD [],
        (setting.map fun m => oneByte m.1.code ++ [m.2]).getD [], (mon.map fun m => oneByte m.codes.1 ++ oneByte m.codes.2).getD []])
      (by
        simp only [List.mem_cons, List.not_mem_nil, or_false, forall_eq_or_imp, forall_eq]
        exact ⟨short_option short_twoBytes timer, short_option short_twoBytes limit,
          short_option (fun m => by simp [oneByte]) setting, short_option (fun m => by simp [oneByte]) mon⟩)
      (by simp only [optionSent_eq, List.flatMap_cons, List.flatMap_nil, List.append_nil, List.append_assoc])
    rw [setHubOperands, items]
    simp only [optItem_numItem, optItem_markSetting, optItem_monSelect]
    rfl
  · refine live_answered asked (effect := setHubAnswer) (answer := refuse (intakeLeft s rest) .badRequest) ?_
    rw [setHubAnswer, none]
  · rintro o timer limit pending mon reads rfl rfl rfl rfl
    refine live_answered asked (effect := setHubAnswer) (answer := acceptWith _ _) ?_
    rw [setHubAnswer, reads]
    simp only [State.applyHub_eq]
    rfl

/-! ### WRITE_PROFILE -/

theorem mapEntries_sent {entries : List (Byte × Byte × Option Byte)} (named : ∀ e ∈ entries, e.2.2 ≠ some 255) :
    mapEntries (entries.flatMap fun e => [e.1, e.2.1, e.2.2.getD 255])
      = some (entries.map fun e => (e.1.toNat, e.2.1.toNat, e.2.2.map BitVec.toNat)) := by
  induction entries with
  | nil => rfl
  | cons e entries ih =>
    obtain ⟨source, invert, partner⟩ := e
    have partnerRead : (if partner.getD 255 = 0xFF#8 then none else some (partner.getD 255).toNat) = partner.map BitVec.toNat := by
      cases partner with
      | none => rfl
      | some p =>
        have differs : p ≠ 0xFF#8 := fun same => named _ List.mem_cons_self (congrArg some same)
        exact if_neg differs
    rw [List.flatMap_cons, List.cons_append, List.cons_append, List.cons_append, List.nil_append, mapEntries,
      ih fun e he => named e (List.mem_cons_of_mem _ he), partnerRead]
    rfl

theorem length_mapSent (entries : List (Byte × Byte × Option Byte)) :
    (entries.flatMap fun e => [e.1, e.2.1, e.2.2.getD 255]).length = 3 * entries.length := by
  induction entries with
  | nil => rfl
  | cons e entries ih =>
    rw [List.flatMap_cons, List.length_append, ih]
    simp only [List.length_cons, List.length_nil]
    omega

theorem inRange_map (first : Nat) (es : List (Nat × Nat × Option Nat)) : (ProfileWrite.map first es).inRange = true ↔
    1 ≤ es.length ∧ es.length ≤ 8 ∧ first + es.length ≤ 26
      ∧ ∀ e ∈ es, e.1 ≤ 25 ∧ (e.2.1 = 0 ∨ e.2.1 = 1) ∧ ∀ p : Nat, e.2.2 = some p → p ≤ 25 := by
  have entry (e : Nat × Nat × Option Nat) : (decide (e.1 ≤ 25 ∧ e.2.1 ≤ 1) && e.2.2.all fun p => decide (p ≤ 25)) = true
      ↔ e.1 ≤ 25 ∧ (e.2.1 = 0 ∨ e.2.1 = 1) ∧ ∀ p : Nat, e.2.2 = some p → p ≤ 25 := by
    have flag : e.2.1 ≤ 1 ↔ e.2.1 = 0 ∨ e.2.1 = 1 := by omega
    cases e.2.2 with
    | none => simp [flag]
    | some p => simp [flag, and_assoc]
  rw [ProfileWrite.inRange, Bool.and_eq_true, decide_eq_true_iff, List.all_eq_true, and_assoc, and_assoc]
  exact and_congr_right fun _ => and_congr_right fun _ => and_congr_right fun _ => forall₂_congr fun e _ => entry e

theorem writeProfileAnswer_badIndex {n : Nat} {w : ProfileWrite} (reads : writeProfileOperands r = some (n, w))
    (bad : 4 ≤ n ∨ w.inRange = false) : writeProfileAnswer r s = refuse s .badRequest := by
  rw [writeProfileAnswer, reads]
  simp only
  rcases bad with large | out
  · rw [profileOf_none large]
  · cases profileOf n with
    | none => rfl
    | some k => simp only [out, if_true]

/-- What WRITE_PROFILE answers to a part in its ranges (R8). -/
theorem writeProfileAnswer_inRange {k : ProfileIx} {w : ProfileWrite} (reads : writeProfileOperands r = some (k.val, w))
    (range : w.inRange = true) : writeProfileAnswer r s =
      if (s.profile k).pendingSwap then refuse s .swapPending
      else if (s.profile k).standbyBank.refCount ≠ 0 then refuse s .bankBusy
      else accept (s.modProfile k fun p => p.write w) := by
  rw [writeProfileAnswer, reads]
  simp only [profileOf_val, range, Bool.true_eq_false, if_false]

/-- Settles O26: the parts read back, and the conditions in order. -/
theorem writeProfileReachesTheStandbyBankAlone : Obligations.WriteProfileReachesTheStandbyBankAlone := by
  refine ⟨fun g => ?_, inRange_map, fun order rm cm pi ck => by simp [ProfileWrite.inRange],
    fun id profile rb cb w sr sc first rm cm pi ck kind order entries => ⟨?_, fun few named => ?_, fun sixteen => ?_⟩,
    fun s r rest asked => ⟨fun none => ?_, fun n w reads bad => live_answered asked (writeProfileAnswer_badIndex reads bad),
      fun k w reads range => ⟨fun pending => ?_, fun free busy => ?_, fun free idle => ?_⟩⟩⟩
  · rw [ProfileWrite.inRange, inRange_iff]
    grind
  · rw [writeProfileOperands, bodyItems_sent (items := [twoBytes profile.toNat, [1], twoBytes rb.toNat, twoBytes cb.toNat,
      twoBytes w.toNat, twoBytes sr.toNat, twoBytes sc.toNat]) (by simp [twoBytes]) (by simp [List.flatMap_cons])]
    show ((numItem 2 _).bind fun k => (numItem 2 _).bind fun rb => (numItem 2 _).bind fun cb => (numItem 2 _).bind fun w =>
      (numItem 2 _).bind fun sr => (numItem 2 _).bind fun sc => some (k, ProfileWrite.geometry ⟨rb, cb, w, sr, sc⟩)) = _
    simp only [numItem_twoBytes, Option.bind_some]
  · rw [writeProfileOperands, bodyItems_sent (items := [twoBytes profile.toNat, [2], twoBytes first.toNat,
      entries.flatMap fun e => [e.1, e.2.1, e.2.2.getD 255]])
      (by
        simp only [List.mem_cons, List.not_mem_nil, or_false, forall_eq_or_imp, forall_eq, length_mapSent]
        exact ⟨short_twoBytes _, by decide, short_twoBytes _, few⟩) (by simp [List.flatMap_cons])]
    show ((numItem 2 _).bind fun k => (numItem 2 _).bind fun first => (mapEntries _).bind fun es =>
      some (k, ProfileWrite.map first es)) = _
    simp only [numItem_twoBytes, mapEntries_sent named, Option.bind_some]
  · rw [writeProfileOperands, bodyItems_sent (items := [twoBytes profile.toNat, [3], order, twoBytes rm.toNat, twoBytes cm.toNat,
      twoBytes pi.toNat, twoBytes ck.toNat]) (by simp [twoBytes, sixteen]) (by simp [List.flatMap_cons])]
    show ((numItem 2 _).bind fun k => (numItem 2 _).bind fun rm => (numItem 2 _).bind fun cm => (numItem 2 _).bind fun pi =>
      (numItem 2 _).bind fun ck => if order.length = 16 then some (k, ProfileWrite.topology (order.map BitVec.toNat) rm cm pi ck)
        else Option.none) = _
    simp only [numItem_twoBytes, Option.bind_some, if_pos sixteen]
  · refine live_answered asked (effect := writeProfileAnswer) (answer := refuse (intakeLeft s rest) .badRequest) ?_
    rw [writeProfileAnswer, none]
  · refine live_answered asked (effect := writeProfileAnswer) (answer := refuse (intakeLeft s rest) .swapPending) ?_
    rw [writeProfileAnswer_inRange reads range]
    exact if_pos pending
  · refine live_answered asked (effect := writeProfileAnswer) (answer := refuse (intakeLeft s rest) .bankBusy) ?_
    rw [writeProfileAnswer_inRange reads range, if_neg (by simp [free])]
    exact if_pos busy
  · refine live_answered asked (effect := writeProfileAnswer)
      (answer := accept ((intakeLeft s rest).modProfile k fun p => p.write w)) ?_
    rw [writeProfileAnswer_inRange reads range, if_neg (by simp [free])]
    exact if_neg (Classical.not_not.mpr idle)

/-- A written map at an index: the entry of the list where the list reaches it (R10). -/
theorem getElem_writeEntries (es : List (Nat × Nat × Option Nat)) (first : Nat) (m : Vector MapEntry 26) {j : Nat} (hj : j < 26) :
    (writeEntries first es m)[j] = if first ≤ j ∧ j < first + es.length then
      (es[j - first]?).elim m[j] fun e => ⟨e.1, decide (e.2.1 = 1), e.2.2⟩ else m[j] := by
  induction es generalizing first m with
  | nil => simp [writeEntries]
  | cons e es ih =>
    rw [writeEntries, ih, Vector.getElem_setIfInBounds]
    rcases Nat.lt_trichotomy j first with before | rfl | after
    · rw [if_neg (by omega), if_neg (by omega), if_neg (by omega)]
    · rw [if_neg (by omega), if_pos rfl, if_pos ⟨Nat.le_refl _, by rw [List.length_cons]; omega⟩, Nat.sub_self,
        List.getElem?_cons_zero, Option.elim_some]
    · obtain ⟨d, rfl⟩ := Nat.exists_eq_add_of_lt after
      have index : first + d + 1 - first = d + 1 := by omega
      have inner : first + d + 1 - (first + 1) = d := by omega
      rw [index, inner, List.getElem?_cons_succ, List.length_cons]
      rw [if_neg (show ¬ first = first + d + 1 by omega)]
      exact ite_congr (propext (by omega)) (fun _ => rfl) fun _ => rfl

/-- Settles O27: each part's own fields, the map entry by entry and the pin order pin by pin. -/
theorem writesReplaceThePartAlone : Obligations.WritesReplaceThePartAlone := by
  intro t g first es order rm cm pi ck
  refine ⟨rfl, fun _ => ⟨rfl, fun j hj => ?_⟩, fun _ => ⟨rfl, fun d hd => ?_⟩⟩
  · have entry (u : Tables) : u.entry j = u.map[j] := Tables.entry_of_lt u hj
    rw [entry, entry]
    exact getElem_writeEntries es first t.map hj
  · have pin := Tables.pinOf_eq ((ProfileWrite.topology order rm cm pi ck).apply t) ⟨d, hd⟩
    refine pin.trans ?_
    show (Vector.ofFn fun d : Fin 16 => order.getD d.val 0)[d] = _
    rw [Vector.getElem_ofFn]

/-! ### SWAP_PROFILE -/

/-- What SWAP_PROFILE answers to an index in 0..3 (R15). -/
theorem swapProfileAnswer_named {hi lo : Byte} {k : ProfileIx} (body : r.body = [2, hi, lo]) (index : (hi ++ lo).toNat = k.val) :
    swapProfileAnswer r s =
      if (s.profile k).pendingSwap then accept s
      else match (s.profile k).swapFailure with
        | some (f, i) => ⟨s, .mapInvalid, some [Item.bytes [f.code, i]]⟩
        | none =>
          if (s.profile k).geometryDiffers ∧ s.geometryLocked k then refuse s .geometryLocked
          else accept (s.modProfile k Profile.requestSwap) := by
  rw [swapProfileAnswer, indexOperand_two body, index, Option.bind_some, profileOf_val] <;> rfl

/-- A standby bank that is VALID, or that passes validation, refuses no swap (R15, step 3). -/
theorem Profile.swapFailure_none {p : Profile} (passes : p.standbyBank.valid = true ∨ p.standbyBank.tables.validate = none) :
    p.swapFailure = none := by
  rw [Profile.swapFailure]
  split
  · rfl
  · rename_i other; exact passes.resolve_left other

/-- Settles O28: the five steps in order. -/
theorem swapProfileTakesItsConditionsInOrder : Obligations.SwapProfileTakesItsConditionsInOrder := by
  intro s r rest asked
  refine ⟨fun other => ?_, fun hi lo body => ⟨fun large => ?_, ?_⟩⟩
  · refine live_answered asked (effect := swapProfileAnswer) (answer := refuse (intakeLeft s rest) .badRequest) ?_
    rw [swapProfileAnswer, indexOperand_none other]
    rfl
  · refine live_answered asked (effect := swapProfileAnswer) (answer := refuse (intakeLeft s rest) .badRequest) ?_
    rw [swapProfileAnswer, indexOperand_two body, Option.bind_some, profileOf_none large]
  · rintro k p standby index rfl rfl
    have named := swapProfileAnswer_named (s := intakeLeft s rest) body index
    have locked : (intakeLeft s rest).geometryLocked k = true
        ↔ ∃ i : SiteIx, (s.site i).config.mode = .profile k ∧ (s.site i).run.state.inTest = true := by
      rw [State.geometryLocked, any_allSites]
      exact exists_congr fun i => Iff.trans (Bool.and_eq_true_iff) (and_congr decide_eq_true_iff Iff.rfl)
    refine ⟨fun pending => ?_, fun free invalid failure at_ fails => ?_, fun free passes differs used => ?_,
      fun free passes unlocked => ?_⟩
    · refine live_answered asked (effect := swapProfileAnswer) (answer := accept (intakeLeft s rest)) (named.trans ?_)
      exact if_pos pending
    · refine live_answered asked (effect := swapProfileAnswer)
        (answer := ⟨intakeLeft s rest, .mapInvalid, some [Item.bytes [failure.code, at_]]⟩) (named.trans ?_)
      have failure : ((intakeLeft s rest).profile k).swapFailure = some (failure, at_) := by
        rw [Profile.swapFailure]
        exact (if_neg (by rw [show ((intakeLeft s rest).profile k).standbyBank.valid = false from invalid]; decide)).trans fails
      rw [if_neg (by simp [free]), failure]
    · refine live_answered asked (effect := swapProfileAnswer) (answer := refuse (intakeLeft s rest) .geometryLocked)
        (named.trans ?_)
      have none : ((intakeLeft s rest).profile k).swapFailure = none := Profile.swapFailure_none passes
      rw [if_neg (by simp [free]), none]
      exact if_pos ⟨decide_eq_true differs, locked.mpr used⟩
    · refine live_answered asked (effect := swapProfileAnswer)
        (answer := accept ((intakeLeft s rest).modProfile k Profile.requestSwap)) (named.trans ?_)
      have none : ((intakeLeft s rest).profile k).swapFailure = none := Profile.swapFailure_none passes
      rw [if_neg (by simp [free]), none]
      refine if_neg fun ⟨differs, held⟩ => ?_
      rcases unlocked with same | quiet
      · exact of_decide_eq_true differs same
      · obtain ⟨i, mode, inTest⟩ := locked.mp held
        exact absurd inTest (by simp [quiet i mode])

/-! ### SET_PAIR -/

theorem codedOption_rate (rate : Option LinkRate) :
    codedOption LinkRate.ofCode ((rate.map fun c => oneByte c.code).getD []) = some rate := by
  cases rate with
  | none => rfl
  | some c => cases c <;> rfl

/-- The settings of a pair after a SET_PAIR, written out (R147). -/
theorem PairSettings.apply_eq (p : PairSettings) (o : PairOptions) : p.apply o =
    { tripLevel := o.tripLevel.elim p.tripLevel fun v => min v 4095
      deglitch := o.deglitch.elim p.deglitch fun v => max 1 (min v 16)
      blanking := o.blanking.elim p.blanking fun v => min v 255
      rate := o.rate.getD p.rate } := by
  obtain ⟨trip, deglitch, blanking, rate⟩ := o
  simp only [PairSettings.apply, getD_map_elim]
  have zero (hi : Nat) : clampTo 0 hi = fun v => min v hi := funext (clampTo_zero hi)
  rw [zero, zero]
  rfl

theorem pairAtRest_iff (k : PairIx) : s.pairAtRest k = true
    ↔ ∀ i : SiteIx, i.pair = k → (s.site i).run.state = .disabled ∨ (s.site i).run.state = .released := by
  simp only [State.pairAtRest, List.all_eq_true, decide_eq_true_eq]
  exact ⟨fun h i => h i (mem_allSites i), fun h i _ => h i⟩

theorem setPairAnswer_named {k : PairIx} {o : PairOptions} (reads : setPairOperands r = some (k.val, o)) : setPairAnswer r s =
    if o.rate.any (fun c => decide (c ≠ s.pairs[k].rate)) ∧ s.pairAtRest k = false then refuse s .badState
    else acceptWith (s.modPair k fun p => p.apply o) (s.pairs[k].apply o).items := by
  rw [setPairAnswer, reads]
  simp only [pairIndexOf_val]

/-- Settles O31: the five items read back, and the three steps in order. -/
theorem setPairTakesItsConditionsInOrder : Obligations.SetPairTakesItsConditionsInOrder := by
  refine ⟨fun id pair kind trip deglitch blanking rate => ?_, fun s r rest asked => ⟨fun none => ?_, fun n o reads large => ?_,
    fun k o p reads => ⟨?_, ?_⟩⟩⟩
  · rw [setPairOperands, bodyItems_sent (items := [twoBytes pair.toNat, (trip.map fun v => twoBytes v.toNat).getD [],
      (deglitch.map fun v => twoBytes v.toNat).getD [], (blanking.map fun v => twoBytes v.toNat).getD [],
      (rate.map fun c => oneByte c.code).getD []])
      (by
        simp only [List.mem_cons, List.not_mem_nil, or_false, forall_eq_or_imp, forall_eq]
        exact ⟨short_twoBytes pair, short_option short_twoBytes trip, short_option short_twoBytes deglitch,
          short_option short_twoBytes blanking, short_option (fun c => by simp [oneByte]) rate⟩)
      (by simp only [optionSent_eq, List.flatMap_cons, List.flatMap_nil, List.append_nil, List.append_assoc])]
    simp only [numItem_twoBytes, optItem_numItem, codedOption_rate]
    rfl
  · refine live_answered asked (effect := setPairAnswer) (answer := refuse (intakeLeft s rest) .badRequest) ?_
    rw [setPairAnswer, none]
  · refine live_answered asked (effect := setPairAnswer) (answer := refuse (intakeLeft s rest) .badRequest) ?_
    rw [setPairAnswer, reads]
    simp only [pairIndexOf_none large]
  · rintro ⟨c, changes, differs⟩ ⟨i, pair, notDisabled, notReleased⟩
    refine live_answered asked (effect := setPairAnswer) (answer := refuse (intakeLeft s rest) .badState) ?_
    rw [setPairAnswer_named reads]
    refine if_pos ⟨by rw [changes]; exact decide_eq_true differs, eq_false_of_ne_true fun rests => ?_⟩
    rcases (pairAtRest_iff k).mp rests i pair with disabled | released
    · exact notDisabled disabled
    · exact notReleased released
  · rintro allowed rfl
    rw [← PairSettings.apply_eq]
    refine live_answered asked (effect := setPairAnswer) (answer := acceptWith ((intakeLeft s rest).modPair k fun p => p.apply o)
      (s.pairs[k].apply o).items) ?_
    rw [setPairAnswer_named reads]
    refine if_neg fun ⟨changes, busy⟩ => ?_
    rcases allowed with same | rests
    · cases rate : o.rate with
      | none => simp [rate] at changes
      | some c =>
        rw [rate] at changes
        exact of_decide_eq_true changes (same c rate)
    · exact absurd ((pairAtRest_iff k).mpr rests) (by rw [show s.pairAtRest k = false from busy]; decide)

end Sys2Proof.Machine
end

section
/-! JOIN_SITE, RETIRE_SITE, CLEAR_SITE and RELEASE_SITE: their conditions in order, and what they leave the site with
(R65, R68, R69, R73 to R76, R80, R81, R183). -/
namespace Sys2Proof.Machine

open Sys2Proof.Safety

variable {s t : State} {i : SiteIx} {r : CtrlRequest} {rest : List CtrlRequest} {hi lo : Byte}

@[simp] theorem State.site_respond (s : State) (i : SiteIx) (r : CtrlRequest) (code : RespCode) (data : Option (List Item)) :
    (s.respond r code data).site i = s.site i := by
  rw [State.respond, State.site_enqueue]
  rfl

/-! ### The site that a request names -/

theorem siteNamed (body : r.body = [2, hi, lo]) (index : (hi ++ lo).toNat = i.val) : (indexOperand r).bind siteOf = some i := by
  rw [indexOperand_two body, index]
  exact siteOf_val i

theorem siteNamed_none (body : ∀ hi lo : Byte, r.body ≠ [2, hi, lo]) : (indexOperand r).bind siteOf = none := by
  rw [indexOperand_none body]
  rfl

theorem siteNamed_outside (body : r.body = [2, hi, lo]) (large : 8 ≤ (hi ++ lo).toNat) :
    (indexOperand r).bind siteOf = none := by
  rw [indexOperand_two body]
  exact siteOf_none large

/-! ### Draining -/

/-- A site that a cause of the draining kind takes out of ACTIVE (R49, R75, R76). -/
def Site.drainStarted (x : Site) : Site :=
  let y : Site := { x with
    run := { x.run with state := .draining }
    head := { x.head with launchQueue := [], flushed := (x.head.flushed + x.head.launchQueue.length) % 2 ^ 48 }
    reports := { x.reports with summaryPending := true } }
  if x.head.inFlight = [] then retiredSite y else y

theorem State.raiseCauseQuiet_drains {c : Cause} (kind : c.kind = .draining) (active : (s.site i).run.state = .active) :
    s.raiseCauseQuiet i c = (s.dropRefs ((s.site i).head.launchQueue.map LaunchEntry.bound)).modSite i fun x =>
      ({ x with run := withCause c x.run } : Site).drainStarted := by
  rw [State.raiseCauseQuiet_draining s i c kind active, State.recordCause_eq, State.startDrain_eq, State.dropRefs_modSite,
    State.site_modSite_same, State.modSite_modSite]
  rfl

theorem state_drainStarted (x : Site) :
    x.drainStarted.run.state = if x.head.inFlight = [] then .retired else .draining := by
  unfold Site.drainStarted
  split <;> rfl

theorem controlList_drainStarted {x : Site} (empty : x.head.inFlight = []) :
    x.drainStarted.head.controlList = cutRaised x.head.controlList := by
  unfold Site.drainStarted
  rw [if_pos empty]
  rfl

/-! ### JOIN_SITE -/

theorem joinSiteAnswer_idle (named : (indexOperand r).bind siteOf = some i) (idle : (s.site i).run.state = .idle)
    {k : ProfileIx} (mode : (s.site i).config.mode = .profile k) : joinSiteAnswer r s =
      if (s.profile k).activeBank.valid = false then refuse s .noProfile
      else if (s.profile k).pendingSwap ∧ (s.profile k).geometryDiffers then refuse s .geometryLocked
      else accept (s.join i (s.profile k).activeBank.tables.geometry) := by
  rw [joinSiteAnswer, named]
  simp only [idle, mode, ne_eq, not_true_eq_false, if_false]

/-- Settles O32: the conditions in order, and the site that joins. -/
theorem joinSiteTakesItsConditionsInOrder : Obligations.JoinSiteTakesItsConditionsInOrder := by
  intro s r rest asked
  refine ⟨fun other => ?_, fun hi lo body => ⟨fun large => ?_, fun i index => ?_⟩⟩
  · refine live_answered asked (effect := joinSiteAnswer) (answer := refuse (intakeLeft s rest) .badRequest) ?_
    rw [joinSiteAnswer, siteNamed_none other]
  · refine live_answered asked (effect := joinSiteAnswer) (answer := refuse (intakeLeft s rest) .badRequest) ?_
    rw [joinSiteAnswer, siteNamed_outside body large]
  · have named := siteNamed body index
    refine ⟨fun busy => ?_, fun idle disabled => ?_, ?_⟩
    · refine live_answered asked (effect := joinSiteAnswer) (answer := refuse (intakeLeft s rest) .badState) ?_
      rw [joinSiteAnswer, named]
      exact if_pos busy
    · refine live_answered asked (effect := joinSiteAnswer) (answer := refuse (intakeLeft s rest) .noProfile) ?_
      rw [joinSiteAnswer, named]
      simp only [site_intakeLeft, idle, disabled, ne_eq, not_true_eq_false, if_false]
    · rintro k active standby idle mode rfl rfl
      have answer := joinSiteAnswer_idle (s := intakeLeft s rest) named idle mode
      refine ⟨fun invalid => ?_, fun valid pending differs => ?_, fun valid free => ?_⟩
      · refine live_answered asked (effect := joinSiteAnswer) (answer := refuse (intakeLeft s rest) .noProfile) ?_
        exact answer.trans (if_pos invalid)
      · refine live_answered asked (effect := joinSiteAnswer) (answer := refuse (intakeLeft s rest) .geometryLocked) ?_
        rw [answer, if_neg (by rw [show ((intakeLeft s rest).profile k).activeBank.valid = true from valid]; decide)]
        exact if_pos ⟨pending, decide_eq_true differs⟩
      · refine live_answered asked (effect := joinSiteAnswer)
          (answer := accept ((intakeLeft s rest).modSite i fun x => { x with
            run := { x.run with state := .armed, joinGeometry := some (s.profile k).activeBank.tables.geometry }
            regions := layOutAll (s.profile k).activeBank.tables.geometry x.regions
            supply := { x.supply with peak := some 0, overCount := 0, blanking := (s.pairOf i).blanking }
            head := { x.head with controlList := x.head.controlList ++ [.powerOn] }
            reports := { x.reports with summaryPending := true } })) ?_
        have allowed : ¬(((intakeLeft s rest).profile k).pendingSwap = true
            ∧ ((intakeLeft s rest).profile k).geometryDiffers = true) := by
          rintro ⟨pending, differs⟩
          rcases free with none | same
          · exact absurd pending (by simp [none])
          · exact of_decide_eq_true differs same
        rw [answer, if_neg (by rw [show ((intakeLeft s rest).profile k).activeBank.valid = true from valid]; decide),
          if_neg allowed, State.join_eq]
        rfl

/-! ### RETIRE_SITE -/

theorem retireSiteAnswer_inTest (named : (indexOperand r).bind siteOf = some i)
    (leaves : (s.site i).run.state = .armed ∨ (s.site i).run.state = .primed ∨ (s.site i).run.state = .active) :
    retireSiteAnswer r s =
      acceptWith (s.raiseCause i .requested) [Item.byte ((s.raiseCause i .requested).site i).run.state.code] := by
  rw [retireSiteAnswer, named]
  rcases leaves with h | h | h <;> simp only [h]

/-- RETIRE_SITE before ACTIVE (R74). -/
theorem retireSite_before (asked : Asked s 10 r rest) (named : (indexOperand r).bind siteOf = some i)
    (before : (s.site i).run.state = .armed ∨ (s.site i).run.state = .primed) :
    exec .retireSite s = .next ((((intakeLeft s rest).modSite i fun _ =>
      retiredSite { s.site i with run := withCause .requested (s.site i).run }).readFlow).respond r .ok
        (some [Item.byte SiteState.retired.code])) := by
  have raised : (intakeLeft s rest).raiseCause i .requested = ((intakeLeft s rest).modSite i fun _ =>
      retiredSite { s.site i with run := withCause .requested (s.site i).run }).readFlow := by
    rw [State.raiseCause, State.raiseCauseQuiet_before (intakeLeft s rest) i .requested (by decide) before]
    exact congrArg State.readFlow (State.modSite_congr _ _ rfl)
  refine live_answered asked (effect := retireSiteAnswer) (answer := acceptWith _ _) ?_
  rw [retireSiteAnswer_inTest (s := intakeLeft s rest) named (before.imp_right Or.inl), raised, State.site_readFlow,
    State.site_modSite_same]
  rfl

/-- RETIRE_SITE in ACTIVE (R75). -/
theorem retireSite_active (asked : Asked s 10 r rest) (named : (indexOperand r).bind siteOf = some i)
    (active : (s.site i).run.state = .active) :
    exec .retireSite s = .next (((((intakeLeft s rest).dropRefs ((s.site i).head.launchQueue.map LaunchEntry.bound)).modSite i
      fun _ => ({ s.site i with run := withCause .requested (s.site i).run } : Site).drainStarted).readFlow).respond r .ok
        (some [Item.byte (if (s.site i).head.inFlight = [] then SiteState.retired else SiteState.draining).code])) := by
  have raised : (intakeLeft s rest).raiseCause i .requested =
      (((intakeLeft s rest).dropRefs ((s.site i).head.launchQueue.map LaunchEntry.bound)).modSite i
        fun _ => ({ s.site i with run := withCause .requested (s.site i).run } : Site).drainStarted).readFlow := by
    rw [State.raiseCause, State.raiseCauseQuiet_drains (s := intakeLeft s rest) (c := .requested) (by decide) active]
    refine congrArg State.readFlow (State.modSite_congr _ _ ?_)
    rw [State.site_dropRefs]
    rfl
  refine live_answered asked (effect := retireSiteAnswer) (answer := acceptWith _ _) ?_
  rw [retireSiteAnswer_inTest (s := intakeLeft s rest) named (Or.inr (Or.inr active)), raised, State.site_readFlow,
    State.site_modSite_same, state_drainStarted]
  rfl

/-- A CUT takes the oldest POWER_ON that waits with it, else it joins the tail (R69). -/
theorem cutRaised_cases (frames : List ControlKind) :
    (∀ before behind : List ControlKind, frames = before ++ .powerOn :: behind → .powerOn ∉ before →
      cutRaised frames = before ++ behind)
    ∧ (.powerOn ∉ frames → cutRaised frames = frames ++ [.cut]) := by
  refine ⟨?_, fun none => if_neg none⟩
  rintro before behind rfl fresh
  rw [cutRaised, if_pos (by simp), List.erase_append_right _ fresh, List.erase_cons_head]

/-- Settles O33: a site before ACTIVE and a site in ACTIVE, every other being refused, and the CUT of one that is RETIRED. -/
theorem retireSiteLeavesTest : Obligations.RetireSiteLeavesTest := by
  intro s r rest asked
  refine ⟨fun other => ?_, fun hi lo body => ⟨fun large => ?_, ?_⟩⟩
  · refine live_answered asked (effect := retireSiteAnswer) (answer := refuse (intakeLeft s rest) .badRequest) ?_
    rw [retireSiteAnswer, siteNamed_none other]
  · refine live_answered asked (effect := retireSiteAnswer) (answer := refuse (intakeLeft s rest) .badRequest) ?_
    rw [retireSiteAnswer, siteNamed_outside body large]
  · rintro i x index rfl
    have named := siteNamed body index
    refine ⟨fun notArmed notPrimed notActive => ?_, retireSite_before asked named, ?_, ?_⟩
    · refine live_answered asked (effect := retireSiteAnswer) (answer := refuse (intakeLeft s rest) .badState) ?_
      rw [retireSiteAnswer, named]
      cases state : ((intakeLeft s rest).site i).run.state with
      | armed => exact absurd state notArmed
      | primed => exact absurd state notPrimed
      | active => exact absurd state notActive
      | _ => simp only [state]
    · rintro y active rfl
      exact retireSite_active asked named active
    · have list (t : State) (next : exec .retireSite s = .next t)
          (cut : (t.site i).head.controlList = cutRaised (s.site i).head.controlList) :
          ∃ t : State, exec .retireSite s = .next t
            ∧ (∀ before behind : List ControlKind, (s.site i).head.controlList = before ++ .powerOn :: behind →
              .powerOn ∉ before → (t.site i).head.controlList = before ++ behind)
            ∧ (.powerOn ∉ (s.site i).head.controlList →
              (t.site i).head.controlList = (s.site i).head.controlList ++ [.cut]) := by
        refine ⟨t, next, ?_⟩
        rw [cut]
        exact cutRaised_cases _
      have before (known : (s.site i).run.state = .armed ∨ (s.site i).run.state = .primed) :=
        list _ (retireSite_before asked named known) (by
          rw [State.site_respond, State.site_readFlow, State.site_modSite_same]
          rfl)
      rintro (armed | primed | ⟨active, empty⟩)
      · exact before (Or.inl armed)
      · exact before (Or.inr primed)
      · refine list _ (retireSite_active asked named active) ?_
        rw [State.site_respond, State.site_readFlow, State.site_modSite_same]
        exact controlList_drainStarted empty

/-! ### CLEAR_SITE and RELEASE_SITE -/

/-- What CLEAR_SITE and RELEASE_SITE answer to a body that names no site. -/
theorem clearOrRelease_unnamed {c : Instr} (asked : (c = .clearSite ∧ Asked s 11 r rest) ∨ (c = .releaseSite ∧ Asked s 12 r rest))
    (unnamed : (indexOperand r).bind siteOf = none) : exec c s = .next ((intakeLeft s rest).respond r .badRequest none) := by
  rcases asked with ⟨rfl, asked⟩ | ⟨rfl, asked⟩
  · refine live_answered asked (effect := clearSiteAnswer) (answer := refuse (intakeLeft s rest) .badRequest) ?_
    rw [clearSiteAnswer, unnamed]
  · refine live_answered asked (effect := releaseSiteAnswer) (answer := refuse (intakeLeft s rest) .badRequest) ?_
    rw [releaseSiteAnswer, unnamed]

theorem state_clearRetired : ((s.clearRetired i).site i).run.state
    = if (s.site i).head.lock = .fine then .idle else .training := by
  rw [State.clearRetired_eq, State.site_modSite_same]
  show (if (s.site i).head.lock = .fine then _ else _ : RunRecord).state = _
  split <;> rfl

/-- A RETIRED site cleared, field by field (R65, R80). -/
theorem State.clearRetired_written : s.clearRetired i = s.modSite i fun x => { x with
    run := { RunRecord.reset with
      state := if x.head.lock = .fine then .idle else .training
      trainingLimit := if x.head.lock = .fine then none else some (s.clock + 5000000) }
    head := { x.head with
      copied := 0, flushed := 0, launched := 0, fineLoss := 0, telemetryCheck := 0, unknownFrames := 0 }
    mapper := FailCounters.reset
    regions := Vector.replicate 16 Region.reset
    marks := { x.marks with offset := x.config.initialOffset, residual := 0 }
    supply := { x.supply with peak := some 0, blanking := 0, overCount := 0 }
    reports := ⟨0, 0, false, true⟩ } := by
  rw [State.clearRetired_eq]
  apply State.modSite_congr
  by_cases fine : (s.site i).head.lock = .fine
  · simp [fine, Site.clear, RunRecord.reset]
  · simp [fine, Site.clear, RunRecord.reset, Config.trainingLimit, Config.ticksPerUs]

theorem clearSiteAnswer_named (named : (indexOperand r).bind siteOf = some i) : clearSiteAnswer r s =
    if (s.site i).run.state = .retired then
      acceptWith (s.clearRetired i) [Item.byte (if (s.site i).head.lock = .fine then SiteState.idle else .training).code]
    else refuse s .badState := by
  rw [← state_clearRetired, clearSiteAnswer, named]

/-- A RETIRED site released: by a RELEASE frame with FINE lock, else with the link taken down (R81). -/
def Site.freed (x : Site) (sent : Option HeadSent) : Site :=
  { x with
    run := { x.run with state := .released }
    head := if x.head.lock = .fine then { x.head with controlList := x.head.controlList ++ [.release] }
      else { x.head.downed with sent := sent }
    supply := if x.head.lock = .fine then x.supply else { x.supply with latest := none }
    reports := { x.reports with summaryPending := true } }

theorem releaseSiteAnswer_named (named : (indexOperand r).bind siteOf = some i) : releaseSiteAnswer r s =
    if (s.site i).run.state = .retired then accept (s.release i) else refuse s .badState := by
  rw [releaseSiteAnswer, named]

/-- Settles O34: the refusals of both, the site cleared, and the site released with and without FINE lock. -/
theorem retiredSitesAreClearedOrReleased : Obligations.RetiredSitesAreClearedOrReleased := by
  intro s r rest i c asked
  refine ⟨fun other => clearOrRelease_unnamed asked (siteNamed_none other), fun hi lo body =>
    ⟨fun large => clearOrRelease_unnamed asked (siteNamed_outside body large), fun index other => ?_, ?_, ?_⟩⟩
  · have named := siteNamed body index
    rcases asked with ⟨rfl, asked⟩ | ⟨rfl, asked⟩
    · refine live_answered asked (effect := clearSiteAnswer) (answer := refuse (intakeLeft s rest) .badState) ?_
      exact (clearSiteAnswer_named named).trans (if_neg other)
    · refine live_answered asked (effect := releaseSiteAnswer) (answer := refuse (intakeLeft s rest) .badState) ?_
      exact (releaseSiteAnswer_named named).trans (if_neg other)
  · rintro index retired rfl
    have named := siteNamed body index
    rcases asked with ⟨-, asked⟩ | ⟨same, -⟩
    · rw [← clock_intakeLeft (rest := rest), ← State.clearRetired_written]
      refine live_answered asked (effect := clearSiteAnswer) (answer := acceptWith _ _) ?_
      exact (clearSiteAnswer_named named).trans (if_pos retired)
    · cases same
  · rintro index retired rfl
    have named := siteNamed body index
    rcases asked with ⟨same, -⟩ | ⟨-, asked⟩
    · cases same
    · refine ⟨(s.site i).freed (lastSent (intakeLeft s rest) i .cutOff), ?_, fun fine => ?_, fun notFine => ?_⟩
      · refine live_answered asked (effect := releaseSiteAnswer) (answer := accept ((intakeLeft s rest).modSite i fun _ =>
          (s.site i).freed (lastSent (intakeLeft s rest) i .cutOff))) ?_
        rw [releaseSiteAnswer_named named, if_pos (by exact retired), State.release_eq]
        exact congrArg accept (State.modSite_congr _ _ rfl)
      · simp only [Site.freed, if_pos fine]
      · simp only [Site.freed, if_neg notFine]
        rfl

end Sys2Proof.Machine
end

section
/-! SET_SITE: its nine items, the table of site states, the options with their applied values, and the cause that setting
`retire_on_unrepairable` raises (R63, R64, R78, R180). -/
namespace Sys2Proof.Machine

open Sys2Proof.Safety

variable {s t : State} {i : SiteIx} {r : CtrlRequest} {rest : List CtrlRequest} {m : SiteMode} {o : SiteOptions}

/-! ### The nine items -/

theorem optItem_siteMode (mode : Option SiteMode) :
    optItem siteModeItem ((mode.map fun m => oneByte m.codes.1 ++ oneByte m.codes.2).getD []) = some mode := by
  cases mode with
  | none => rfl
  | some m =>
    cases m with
    | disabled => rfl
    | profile k => match k with
      | 0 | 1 | 2 | 3 => rfl

theorem optItem_flag (flag : Option Bool) :
    optItem flagItem ((flag.map fun b => oneByte (if b then 1 else 0)).getD []) = some flag := by
  cases flag with
  | none => rfl
  | some b => cases b <;> rfl

theorem optItem_failOption (fail : Option (Option FailMode × Option Half)) :
    optItem failOptionItem
        ((fail.map fun f => oneByte (f.1.elim 0 FailMode.code) ++ f.2.elim [] fun v => twoBytes v.toNat).getD [])
      = some (fail.map fun f => ⟨f.1, f.2.map BitVec.toNat⟩) := by
  cases fail with
  | none => rfl
  | some f =>
    obtain ⟨mode, limit⟩ := f
    refine optItem_some (by simp [oneByte]) ?_
    cases limit with
    | none =>
      cases mode with
      | none => rfl
      | some mode => cases mode <;> rfl
    | some v =>
      have limitRead := joinHalf_twoBytes v.isLt
      cases mode with
      | none => exact congrArg (fun n => some (⟨none, some n⟩ : FailOption)) limitRead
      | some mode => cases mode <;> exact congrArg (fun n => some (⟨some _, some n⟩ : FailOption)) limitRead

theorem codedOption_edges (edges : Option LockEdges) :
    codedOption LockEdges.ofCode ((edges.map fun e => oneByte e.code).getD []) = some edges := by
  cases edges with
  | none => rfl
  | some e => cases e <;> rfl

theorem codedOption_errorMode (mode : Option ErrorMode) :
    codedOption ErrorMode.ofCode ((mode.map fun m => oneByte m.code).getD []) = some mode := by
  cases mode with
  | none => rfl
  | some m => cases m <;> rfl

theorem optItem_byte (v : Option Byte) : optItem (numItem 1) ((v.map fun v => [v]).getD []) = some (v.map BitVec.toNat) := by
  cases v with
  | none => rfl
  | some v =>
    refine optItem_some (by simp) ?_
    simp [numItem, beNat]

/-! ### The mode by the table of site states -/

/-- A site that comes from a driven-down link into TRAINING (R64, R65, R66). -/
def Site.broughtUp (x : Site) (m : SiteMode) (rate : LinkRate) (limit : Nat) (sent : Option HeadSent) : Site :=
  { x.clear with
    config := { x.config with mode := m }
    head := { x.clear.head.downed with drive := .enabled, rate := rate, sent := sent }
    run := { RunRecord.reset with state := .training, trainingLimit := some limit }
    supply := { x.clear.supply with latest := none } }

/-- A site that goes to DISABLED (R64). -/
def Site.takenOut (x : Site) (sent : Option HeadSent) : Site :=
  { x with
    config := { x.config with mode := .disabled }
    head := { x.head.downed with sent := sent }
    run := { x.run with state := .disabled, trainingLimit := none }
    supply := { x.supply with latest := none }
    reports := { x.reports with summaryPending := true } }

/-- The effect of a mode on a site (R64). -/
def Site.withMode (x : Site) (m : SiteMode) (rate : LinkRate) (limit : Nat) (sent : Option HeadSent) : Site :=
  if x.run.state.inTest then x
  else if x.run.state = .disabled ∧ m = .disabled then x
  else if m = .disabled then x.takenOut sent
  else if x.run.state = .disabled ∨ x.run.state = .released then x.broughtUp m rate limit sent
  else { x with config := { x.config with mode := m } }

theorem State.setMode_eq (s : State) (i : SiteIx) (m : SiteMode) : s.setMode i m = s.modSite i fun x =>
    x.withMode m (s.pairOf i).rate (s.clock + Config.trainingLimit) (lastSent s i .cutOff) := by
  have kept (h : (s.site i).withMode m (s.pairOf i).rate (s.clock + Config.trainingLimit) (lastSent s i .cutOff) = s.site i) :
      s = s.modSite i fun x =>
        x.withMode m (s.pairOf i).rate (s.clock + Config.trainingLimit) (lastSent s i .cutOff) :=
    (State.modSite_of_id s i h).symm
  unfold State.setMode
  cases state : (s.site i).run.state with
  | armed | primed | active | draining => exact kept (by simp [Site.withMode, state, SiteState.inTest])
  | disabled =>
    cases m with
    | disabled => exact kept (by simp [Site.withMode, state, SiteState.inTest])
    | profile k =>
      rw [State.bringUp_eq]
      exact State.modSite_congr _ _ (by simp [Site.withMode, Site.broughtUp, state, SiteState.inTest])
  | released =>
    cases m with
    | disabled =>
      rw [State.disable_eq]
      exact State.modSite_congr _ _ (by simp [Site.withMode, Site.takenOut, state, SiteState.inTest])
    | profile k =>
      rw [State.bringUp_eq]
      exact State.modSite_congr _ _ (by simp [Site.withMode, Site.broughtUp, state, SiteState.inTest])
  | training | idle | retired =>
    cases m with
    | disabled =>
      rw [State.disable_eq]
      exact State.modSite_congr _ _ (by simp [Site.withMode, Site.takenOut, state, SiteState.inTest])
    | profile k =>
      rw [State.modConfig_eq]
      exact State.modSite_congr _ _ (by simp [Site.withMode, state, SiteState.inTest])

theorem withMode_inTest {x : Site} (h : x.run.state.inTest = true) (rate : LinkRate) (limit : Nat) (sent : Option HeadSent) :
    x.withMode m rate limit sent = x := if_pos h

/-- A mode never leaves a site in ACTIVE or DRAINING that was not there. -/
theorem withMode_quiet {x : Site} (h : x.run.state.inTest = false) (rate : LinkRate) (limit : Nat) (sent : Option HeadSent) :
    (x.withMode m rate limit sent).run.state ≠ .active ∧ (x.withMode m rate limit sent).run.state ≠ .draining := by
  have here : x.run.state ≠ .active ∧ x.run.state ≠ .draining := by
    constructor <;> intro state <;> rw [state] at h <;> cases h
  unfold Site.withMode
  split
  · exact here
  split
  · exact here
  split
  · exact ⟨by simp [Site.takenOut], by simp [Site.takenOut]⟩
  split
  · exact ⟨by simp [Site.broughtUp], by simp [Site.broughtUp]⟩
  · exact here

/-! ### The options -/

/-- Where setting `retire_on_unrepairable` raises nothing (R78). -/
abbrev RaisesNothing (o : SiteOptions) (x : Site) : Prop :=
  o.retire ≠ some true ∨ x.run.unrepairable = false ∨ (x.run.state ≠ .active ∧ x.run.state ≠ .draining)
    ∨ x.config.retireOnUnrepairable = true

theorem setRetireOption_quiet {b : Bool} (quiet : b ≠ true ∨ (s.site i).run.unrepairable = false
      ∨ ((s.site i).run.state ≠ .active ∧ (s.site i).run.state ≠ .draining) ∨ (s.site i).config.retireOnUnrepairable = true) :
    s.setRetireOption i b = s.modSite i fun x => { x with config := { x.config with retireOnUnrepairable := b } } := by
  refine if_neg ?_
  rintro ⟨set, clear, verdict, state⟩
  rcases quiet with other | none | ⟨notActive, notDraining⟩ | already
  · exact other set
  · rw [none] at verdict; cases verdict
  · exact state.elim notActive fun draining => notDraining draining.1
  · rw [already] at clear; cases clear

/-- The options but for `retire_on_unrepairable`, as the model applies them. -/
theorem withOptions_eq (x : Site) : withOptions o x =
    { x with
      config := ({ x.config with retireOnUnrepairable := o.retire.getD x.config.retireOnUnrepairable } : SiteConfig).apply o
      marks := x.marks.setOffset o.offset } := by
  obtain ⟨retire, fail, response, edges, gain, errorMode, offset⟩ := o
  have zero (hi : Nat) : clampTo 0 hi = fun v => min v hi := funext (clampTo_zero hi)
  simp only [withOptions, SiteConfig.apply, SiteMarks.setOffset, getD_map_elim, zero]
  rfl

/-- Where `retire_on_unrepairable` raises nothing, the options take their applied values and that is all. -/
theorem applyOptions_unraised (unraised : ∀ b : Bool, o.retire = some b → s.setRetireOption i b = s.modSite i fun x =>
      { x with config := { x.config with retireOnUnrepairable := b } }) :
    s.applyOptions i o = s.modSite i (withOptions o) := by
  rw [State.applyOptions_eq]
  cases retire : o.retire with
  | none =>
    refine State.modSite_congr s i ?_
    rw [withOptions_eq, retire]
    rfl
  | some b =>
    rw [Option.elim_some, unraised b retire, State.modSite_modSite]
    refine State.modSite_congr s i ?_
    rw [withOptions_eq, retire]
    rfl

theorem applyOptions_quiet (quiet : RaisesNothing o (s.site i)) : s.applyOptions i o = s.modSite i (withOptions o) :=
  applyOptions_unraised fun b retire =>
    setRetireOption_quiet (quiet.imp_left fun other set => other (by rw [retire, set]))

/-! ### The answer -/

theorem setSiteAnswer_none (bad : setSiteOperands r = none) : setSiteAnswer r s = refuse s .badRequest := by
  rw [setSiteAnswer, bad]

theorem setSiteAnswer_outside {n : Nat} {mode : Option SiteMode} (reads : setSiteOperands r = some (n, mode, o))
    (large : 8 ≤ n) : setSiteAnswer r s = refuse s .badRequest := by
  rw [setSiteAnswer, reads]
  simp only [siteOf_none large]

theorem setSiteAnswer_named {mode : Option SiteMode} (reads : setSiteOperands r = some (i.val, mode, o)) : setSiteAnswer r s =
    if (s.site i).refusesMode mode then refuse s .badState
    else acceptWith ((mode.elim s fun m => s.setMode i m).applyOptions i o)
      (((mode.elim s fun m => s.setMode i m).applyOptions i o).site i).configItems := by
  rw [setSiteAnswer, reads]
  simp only [siteOf_val]

/-- A mode is accepted where the site is not in test or has it already (R63). -/
theorem refusesMode_eq_false {x : Site} (accepted : m = x.config.mode ∨ x.run.state.inTest = false) :
    x.refusesMode (some m) = false := by
  rcases accepted with rfl | rest
  · simp [Site.refusesMode]
  · simp [Site.refusesMode, rest]

/-- What SET_SITE answers where its options leave the site as `x`. -/
theorem setSiteAnswer_leaves {mode : Option SiteMode} {x : Site} (reads : setSiteOperands r = some (i.val, mode, o))
    (accepted : (s.site i).refusesMode mode = false) (leaves : (mode.elim s fun m => s.setMode i m) = s.modSite i fun _ => x)
    (quiet : RaisesNothing o x) :
    setSiteAnswer r s = acceptWith (s.modSite i fun _ => withOptions o x) (withOptions o x).configItems := by
  have applied : (s.modSite i fun _ => x).applyOptions i o = s.modSite i fun _ => withOptions o x := by
    rw [applyOptions_quiet (by rwa [State.site_modSite_same]), State.modSite_modSite]
  rw [setSiteAnswer_named reads, if_neg (by rw [accepted]; decide), leaves, applied, State.site_modSite_same]

/-- Settles O29: the refusals, and the site that the mode leaves, case by case of the table. -/
theorem setSiteModeFollowsTheStateTable : Obligations.SetSiteModeFollowsTheStateTable := by
  intro s r rest asked
  refine ⟨fun bad => live_answered asked (setSiteAnswer_none bad),
    fun n mode o reads large => live_answered asked (setSiteAnswer_outside reads large),
    fun i m o reads differs inTest => ?_, fun i m o reads accepted quiet => ?_⟩
  · refine live_answered asked (effect := setSiteAnswer) (answer := refuse (intakeLeft s rest) .badState) ?_
    exact (setSiteAnswer_named reads).trans (if_pos (by simp [Site.refusesMode, inTest, differs]))
  · have next (x : Site) (is : (s.site i).withMode m (s.pairOf i).rate (s.clock + Config.trainingLimit)
        (lastSent (intakeLeft s rest) i .cutOff) = x) : RaisesNothing o x →
        exec .setSite s = .next (((intakeLeft s rest).modSite i fun _ => withOptions o x).respond r .ok
          (some (withOptions o x).configItems)) := by
      intro quiet
      refine live_answered asked (effect := setSiteAnswer)
        (answer := acceptWith ((intakeLeft s rest).modSite i fun _ => withOptions o x) (withOptions o x).configItems) ?_
      refine setSiteAnswer_leaves reads (refusesMode_eq_false accepted) ?_ quiet
      rw [Option.elim_some, State.setMode_eq]
      exact State.modSite_congr _ _ is
    refine ⟨_, next _ rfl ?_, ?_⟩
    · cases inTest : (s.site i).run.state.inTest with
      | true => rw [withMode_inTest inTest]; exact quiet
      | false => exact Or.inr (Or.inr (Or.inl (withMode_quiet inTest _ _ _)))
    · refine ⟨fun inTest => withMode_inTest inTest _ _ _, fun state mode => ?_, fun state mode => ?_, fun state mode => ?_,
        fun state mode => ?_⟩
      · rw [Site.withMode, if_neg (by simp [state, SiteState.inTest]), if_pos ⟨state, mode⟩]
      · have rests : (s.site i).run.state.inTest = false ∧ (s.site i).run.state ≠ .disabled ∧ (s.site i).run.state ≠ .released := by
          rcases state with h | h | h <;> rw [h] <;> decide
        rw [Site.withMode, if_neg (by simp [rests.1]), if_neg (fun h => mode h.2), if_neg mode,
          if_neg (fun h => h.elim rests.2.1 rests.2.2)]
      · have rests : (s.site i).run.state.inTest = false ∧ (s.site i).run.state ≠ .disabled := by
          rcases state with h | h | h | h <;> rw [h] <;> decide
        rw [Site.withMode, if_neg (by simp [rests.1]), if_neg (fun h => rests.2 h.1), if_pos mode]
        rfl
      · have rests : (s.site i).run.state.inTest = false := by
          rcases state with h | h <;> rw [h] <;> decide
        rw [Site.withMode, if_neg (by simp [rests]), if_neg (fun h => mode h.2), if_neg mode, if_pos state]
        rfl

/-- Settles O30: the nine items read back, and the options with no mode. -/
theorem setSiteOptionsTakeTheirAppliedValues : Obligations.SetSiteOptionsTakeTheirAppliedValues := by
  refine ⟨fun id site kind mode retire fail response offset edges gain errorMode => ?_, ?_⟩
  · rw [setSiteOperands, bodyItems_sent (items := [twoBytes site.toNat,
      (mode.map fun m => oneByte m.codes.1 ++ oneByte m.codes.2).getD [],
      (retire.map fun b => oneByte (if b then 1 else 0)).getD [],
      (fail.map fun f => oneByte (f.1.elim 0 FailMode.code) ++ f.2.elim [] fun v => twoBytes v.toNat).getD [],
      (response.map fun v => twoBytes v.toNat).getD [], (edges.map fun e => oneByte e.code).getD [],
      (gain.map fun v => [v]).getD [], (errorMode.map fun m => oneByte m.code).getD [],
      (offset.map fun v => twoBytes v.toNat).getD []])
      (by
        simp only [List.mem_cons, List.not_mem_nil, or_false, forall_eq_or_imp, forall_eq]
        exact ⟨short_twoBytes site, short_option (fun m => by simp [oneByte]) mode, short_option (fun b => by simp [oneByte]) retire,
          short_option (fun f => by cases f.2 <;> simp [oneByte, twoBytes]) fail, short_option short_twoBytes response,
          short_option (fun e => by simp [oneByte]) edges, short_option (fun v => by simp) gain,
          short_option (fun m => by simp [oneByte]) errorMode, short_option short_twoBytes offset⟩)
      (by simp only [optionSent_eq, List.flatMap_cons, List.flatMap_nil, List.append_nil, List.append_assoc])]
    simp only [numItem_twoBytes, optItem_siteMode, optItem_flag, optItem_failOption, optItem_numItem, codedOption_edges,
      optItem_byte, codedOption_errorMode]
    rfl
  · rintro s r rest i o x asked reads quiet rfl
    refine live_answered asked (effect := setSiteAnswer)
      (answer := acceptWith ((intakeLeft s rest).modSite i fun _ => withOptions o (s.site i)) (withOptions o (s.site i)).configItems) ?_
    refine setSiteAnswer_leaves reads (Bool.and_false _) ?_ quiet
    exact (State.modSite_of_id (intakeLeft s rest) i rfl).symm

/-! ### The cause that the option raises -/

/-- A reading of the flow state sees of a site no more than its state and the length of its launch queue. -/
theorem readFlow_modSite {f : Site → Site} (state : (f (s.site i)).run.state = (s.site i).run.state)
    (queue : (f (s.site i)).head.launchQueue = (s.site i).head.launchQueue) :
    s.readFlow.modSite i f = (s.modSite i f).readFlow := by
  have levels (n : Nat) : (s.modSite i f).someQueueAtLeast n = s.someQueueAtLeast n := by
    unfold State.someQueueAtLeast
    congr 1
    funext j
    rw [State.site_modSite]
    split
    · rename_i here; rw [here, state, queue]
    · rfl
  have hold : (s.modSite i f).holdCondition = s.holdCondition := congrArg (decide (192 ≤ s.report.queue.length) || ·) (levels 24)
  have release : (s.modSite i f).releaseCondition = s.releaseCondition :=
    congrArg (fun b => decide (s.report.queue.length < 128) && !b) (levels 9)
  rw [State.readFlow, State.readFlow, hold, release, State.flow_modSite]
  cases s.flow with
  | flowing => simp only; split <;> rfl
  | held => simp only; split <;> rfl

theorem config_drainStarted (x : Site) : x.drainStarted.config = x.config := by
  unfold Site.drainStarted
  split <;> rfl

/-- The options taken after a cause that the first of them raised (R78, R180). -/
theorem applyOptions_raised {c : State} (raised : s.setRetireOption i true = c.readFlow) (retire : o.retire = some true)
    (set : (c.site i).config.retireOnUnrepairable = true) : s.applyOptions i o = (c.modSite i (withOptions o)).readFlow := by
  rw [State.applyOptions_eq, retire, Option.elim_some, raised, readFlow_modSite rfl rfl]
  refine congrArg State.readFlow (State.modSite_congr c i ?_)
  rw [withOptions_eq, retire, Option.getD_some, ← set]

theorem setRetireOption_raises (verdict : (s.site i).run.unrepairable = true)
    (clear : (s.site i).config.retireOnUnrepairable = false)
    (state : (s.site i).run.state = .active
      ∨ ((s.site i).run.state = .draining ∧ (s.site i).run.primary ≠ some .unrepairable)) :
    s.setRetireOption i true = (s.modSite i fun x =>
      { x with config := { x.config with retireOnUnrepairable := true } }).raiseCause i .unrepairable :=
  if_pos ⟨rfl, clear, verdict, state⟩

/-- What SET_SITE answers where its mode changes nothing. -/
theorem setSiteAnswer_same {mode : Option SiteMode} (reads : setSiteOperands r = some (i.val, mode, o))
    (same : mode = none ∨ mode = some (s.site i).config.mode) (inTest : (s.site i).run.state.inTest = true) :
    setSiteAnswer r s = acceptWith (s.applyOptions i o) ((s.applyOptions i o).site i).configItems := by
  rw [setSiteAnswer_named reads]
  rcases same with rfl | rfl
  · exact if_neg (by simp [Site.refusesMode])
  · have kept : s.setMode i (s.site i).config.mode = s := by
      rw [State.setMode_eq]
      exact State.modSite_of_id _ _ (withMode_inTest inTest _ _ _)
    rw [if_neg (by rw [refusesMode_eq_false (Or.inl rfl)]; decide), Option.elim_some, kept]

/-- The exec of a SET_SITE whose options leave the hub as a reading of `c`. -/
theorem setSite_raised {c : State} {w : Site} {mode : Option SiteMode} (asked : Asked s 7 r rest)
    (reads : setSiteOperands r = some (i.val, mode, o)) (same : mode = none ∨ mode = some (s.site i).config.mode)
    (inTest : (s.site i).run.state.inTest = true) (retire : o.retire = some true)
    (raised : (intakeLeft s rest).setRetireOption i true = (c.modSite i fun _ => w).readFlow)
    (set : w.config.retireOnUnrepairable = true) :
    exec .setSite s = .next (((c.modSite i fun _ => withOptions o w).readFlow).respond r .ok
      (some (withOptions o w).configItems)) := by
  have applied : (intakeLeft s rest).applyOptions i o = (c.modSite i fun _ => withOptions o w).readFlow := by
    rw [applyOptions_raised raised retire (by rwa [State.site_modSite_same]), State.modSite_modSite]
  refine live_answered asked (effect := setSiteAnswer)
    (answer := acceptWith ((c.modSite i fun _ => withOptions o w).readFlow) (withOptions o w).configItems) ?_
  rw [setSiteAnswer_same (s := intakeLeft s rest) reads same inTest, applied, State.site_readFlow, State.site_modSite_same]

/-- Settles O35: the option set on an ACTIVE and on a DRAINING site. -/
theorem settingRetireOnUnrepairableRetires : Obligations.SettingRetireOnUnrepairableRetires := by
  rintro s r rest i mode o x y w asked reads same retire verdict clear rfl
  refine ⟨?_, ?_, fun draining primary => ?_⟩
  · rintro active rfl rfl
    refine setSite_raised asked reads same (by rw [active]; rfl) retire ?_ ?_
    · rw [setRetireOption_raises (s := intakeLeft s rest) verdict clear (Or.inl active), State.raiseCause,
        State.raiseCauseQuiet_drains (c := .unrepairable) (by decide) (by rw [State.site_modSite_same]; exact active),
        State.dropRefs_modSite, State.modSite_modSite]
      rw [State.site_modSite_same]
      refine congrArg State.readFlow (State.modSite_congr _ _ ?_)
      rw [State.site_dropRefs]
      rfl
    · exact congrArg SiteConfig.retireOnUnrepairable (config_drainStarted _)
  · rintro draining primary rfl
    refine setSite_raised asked reads same (by rw [draining]; rfl) retire ?_ rfl
    rw [setRetireOption_raises (s := intakeLeft s rest) verdict clear (Or.inr ⟨draining, primary⟩), State.raiseCause,
      State.raiseCauseQuiet_recorded _ _ .unrepairable (Or.inr (Or.inr ⟨by rw [State.site_modSite_same]; exact draining, rfl⟩)),
      State.recordCause_eq, State.modSite_modSite]
    exact congrArg State.readFlow (State.modSite_congr _ _ rfl)
  · have applied : (intakeLeft s rest).applyOptions i o = (intakeLeft s rest).modSite i fun _ => withOptions o (s.site i) := by
      refine (applyOptions_unraised fun b _ => if_neg ?_).trans (State.modSite_congr _ _ rfl)
      rintro ⟨-, -, -, active | ⟨-, other⟩⟩
      · rw [site_intakeLeft, draining] at active; cases active
      · exact other primary
    refine live_answered asked (effect := setSiteAnswer) (answer := acceptWith
      ((intakeLeft s rest).modSite i fun _ => withOptions o (s.site i)) (withOptions o (s.site i)).configItems) ?_
    rw [setSiteAnswer_same (s := intakeLeft s rest) reads same (by rw [site_intakeLeft, draining]; rfl), applied,
      State.site_modSite_same]

end Sys2Proof.Machine
end

section
/-! The Report Engine and the upstream link: the summary record that is owed, report frames and their conditions, the frames
that the link sends; and the launch with the reading of the flow state (R51, R52, R57 to R59, R163 to R168). -/
namespace Sys2Proof.Machine

open Sys2Proof.Safety

variable {s t : State} {i : SiteIx}

/-! ### The scan order -/

theorem mem_allRegions (g : RegionIx) : g ∈ allRegions := by revert g; decide

/-- The sites before and behind one of them in the scan. -/
theorem allSites_split (i : SiteIx) :
    allSites = allSites.filter (fun j => decide (j < i)) ++ i :: allSites.filter (fun j => decide (i < j)) := by
  revert i
  decide

theorem allRegions_split (g : RegionIx) :
    allRegions = allRegions.filter (fun h => decide (h < g)) ++ g :: allRegions.filter (fun h => decide (g < h)) := by
  revert g
  decide

/-- The flags of some sites with their regions, in scan order. -/
def scanOf (sites : List SiteIx) : List SummaryFlag := sites.flatMap fun i => .site i :: allRegions.map (.region i)

/-- No flag of site `i` or of its regions is set. -/
abbrev Unflagged (s : State) (i : SiteIx) : Prop :=
  (s.site i).reports.summaryPending = false ∧ ∀ g : RegionIx, (s.site i).regions[g].summaryPending = false

theorem unflagged_scan {sites : List SiteIx} (clear : ∀ j ∈ sites, Unflagged s j) :
    ∀ f ∈ scanOf sites, (!s.flagSet f) = true := by
  intro f member
  obtain ⟨j, hj, inside⟩ := List.mem_flatMap.mp member
  rcases List.mem_cons.mp inside with rfl | region
  · rw [show s.flagSet (.site j) = false from (clear j hj).1]; rfl
  · obtain ⟨g, -, rfl⟩ := List.mem_map.mp region
    rw [show s.flagSet (.region j g) = false from (clear j hj).2 g]; rfl

theorem summaryRecord_released (released : Released s) : exec .summaryRecord s =
    .next (s.owed.elim s fun f => (s.clearFlag f).enqueue (s.summary f)) := by
  simp only [exec, execSummaryRecord, live_released s released]

/-- The first set flag in scan order makes its record (R164, R165). -/
theorem summaryRecord_first {before behind : List SummaryFlag} {f : SummaryFlag} (released : Released s)
    (room : s.report.queue.length < 252) (order : scanOrder = before ++ f :: behind)
    (clear : ∀ e ∈ before, (!s.flagSet e) = true) (set : s.flagSet f = true) :
    exec .summaryRecord s = .next ((s.clearFlag f).enqueue (s.summary f)) := by
  have owed : s.owed = some f := by
    rw [State.owed, if_pos room]
    exact List.find?_eq_some_iff_append.mpr ⟨set, before, behind, order, clear⟩
  rw [summaryRecord_released released, owed]
  rfl

theorem summaryRecord_none (released : Released s) (owed : s.owed = none) : exec .summaryRecord s = .next s := by
  rw [summaryRecord_released released, owed]
  rfl

/-- The flags before those of a site, in scan order. -/
theorem scanOrder_site (i : SiteIx) : scanOrder =
    (.hub :: scanOf (allSites.filter fun j => decide (j < i)))
      ++ .site i :: (allRegions.map (.region i) ++ scanOf (allSites.filter fun j => decide (i < j))) := by
  show SummaryFlag.hub :: scanOf allSites = _
  conv => lhs; rw [allSites_split i]
  simp [scanOf]

theorem unflagged_before (hub : s.report.hubPending = false) (clear : ∀ j : SiteIx, j < i → Unflagged s j) :
    ∀ f ∈ .hub :: scanOf (allSites.filter fun j => decide (j < i)), (!s.flagSet f) = true := by
  intro f member
  rcases List.mem_cons.mp member with rfl | sites
  · rw [show s.flagSet .hub = false from hub]; rfl
  · exact unflagged_scan (fun j hj => clear j (of_decide_eq_true (List.mem_filter.mp hj).2)) f sites

/-- Settles O36: the hub's flag, a site's and a region's, each the first that is set. -/
theorem summaryRecordsFollowTheScanOrder : Obligations.SummaryRecordsFollowTheScanOrder := by
  intro s released
  refine ⟨fun full => ?_, fun hub clear => ?_, fun room hub => ?_, fun i room hub clear => ⟨fun set => ?_, ?_⟩⟩
  · exact summaryRecord_none released (if_neg (Nat.not_lt.mpr full))
  · refine summaryRecord_none released ?_
    have none : scanOrder.find? s.flagSet = none := by
      refine List.find?_eq_none.mpr fun f member => ?_
      rcases List.mem_cons.mp member with rfl | sites
      · rw [show s.flagSet .hub = false from hub]; decide
      · simpa using unflagged_scan (sites := allSites) (fun j _ => clear j) f sites
    rw [State.owed, none, ite_self]
  · exact summaryRecord_first (before := []) released room rfl (by simp) hub
  · exact summaryRecord_first released room (scanOrder_site i) (unflagged_before hub clear) set
  · rintro g x rfl site regions set
    have order : scanOrder = (.hub :: scanOf (allSites.filter fun j => decide (j < i)))
          ++ .site i :: (allRegions.filter fun h => decide (h < g)).map (.region i)
        ++ .region i g :: ((allRegions.filter fun h => decide (g < h)).map (.region i)
          ++ scanOf (allSites.filter fun j => decide (i < j))) := by
      rw [scanOrder_site i]
      conv => lhs; rw [allRegions_split g]
      simp
    refine (summaryRecord_first released room order ?_ set).trans ?_
    · intro f member
      rcases List.mem_append.mp member with before | inside
      · exact unflagged_before hub clear f before
      · rcases List.mem_cons.mp inside with rfl | region
        · rw [show s.flagSet (.site i) = false from site]; rfl
        · obtain ⟨h, hh, rfl⟩ := List.mem_map.mp region
          rw [show s.flagSet (.region i h) = false from regions h (of_decide_eq_true (List.mem_filter.mp hh).2)]; rfl
    · have cleared : s.clearFlag (.region i g) = s.modSite i fun y =>
          { y with regions := y.regions.set g { (s.site i).regions[g] with summaryPending := false } } := by
        rw [State.clearFlag, State.modRegion_eq]
        exact State.modSite_congr s i rfl
      rw [cleared]
      rfl

/-! ### Report frames -/

/-- The condition of a report frame, by the setting and by urgency (R166). -/
theorem sendCondition_eq (s : State) : (decide (192 ≤ s.report.queue.length)
      || (s.report.queue.any fun q => match q.record with
          | .response _ | .hub _ | .site _ => true
          | _ => false)
      || (if s.report.timerSetting = 0 then decide (16 ≤ s.report.queue.length)
          else if s.report.timerSetting = 1 then decide (1 ≤ s.report.queue.length)
          else s.report.queue.head?.any fun q => decide (q.joined + s.report.timerSetting * 2500 ≤ s.clock)))
    = (s.timerCondition || s.urgent) := by
  have urgent : (fun q : QueuedRecord => match q.record with
      | .response _ | .hub _ | .site _ => true
      | _ => false) = fun q => q.record.urgent := by
    funext q
    cases q.record <;> rfl
  have timer : s.timerCondition = if s.report.timerSetting = 0 then decide (16 ≤ s.report.queue.length)
      else if s.report.timerSetting = 1 then decide (1 ≤ s.report.queue.length)
      else s.report.queue.head?.any fun q => decide (q.joined + s.report.timerSetting * 2500 ≤ s.clock) := by
    rw [State.timerCondition]
    refine ite_congr rfl (fun _ => rfl) fun notZero => ite_congr rfl (fun _ => rfl) fun notOne => ?_
    rw [State.coalescingDue, if_neg (show ¬s.report.timerSetting < 2 by omega), Option.any_map]
    rfl
  rw [urgent, ← timer, State.urgent]
  cases s.timerCondition <;> simp [Bool.or_comm]

theorem buildReady_iff : s.buildReady = true ↔ (s.timerCondition || s.urgent) = true
    ∧ (s.trunk.link = .up ∧ s.trunk.upstream = .free) ∧ s.trunk.pendingFlow = none ∧ s.trunk.interrupted = none
    ∧ s.report.queue ≠ [] := by
  rw [State.buildReady, Bool.and_eq_true, decide_eq_true_iff, TrunkPort.linkFree, decide_eq_true_iff]

/-- Settles O37: the conditions together, and the frame that is built. -/
theorem reportFramesTakeTheOldestRecords : Obligations.ReportFramesTakeTheOldestRecords := by
  intro s condition released is
  have condition_eq : condition = (s.timerCondition || s.urgent) := is.trans (sendCondition_eq s)
  subst condition_eq
  refine ⟨fun missing => ?_, fun holds up free flow interrupted nonempty => ?_⟩
  · simp only [exec, execReportFrameBuild, live_released s released]
    refine congrArg _ (if_neg fun ready => ?_)
    obtain ⟨holds, ⟨up, free⟩, flow, interrupted, nonempty⟩ := buildReady_iff.mp ready
    rcases missing with h | h | h | h | h | h
    · rw [h] at holds; cases holds
    · exact h up
    · exact h free
    · exact h flow
    · exact h interrupted
    · exact nonempty h
  · have responses : (s.nextFrame.filter Record.isResponse).length
        = ((s.report.queue.take 16).filter fun q => q.record.isResponse).length := by
      rw [State.nextFrame, List.filter_map, List.length_map]
      rfl
    simp only [exec, execReportFrameBuild, live_released s released, responses]
    exact congrArg _ (if_pos (buildReady_iff.mpr ⟨holds, ⟨up, free⟩, flow, interrupted, nonempty⟩))

/-! ### The upstream link -/

theorem linkFree_iff (p : TrunkPort) : p.linkFree = true ↔ p.link = .up ∧ p.upstream = .free := decide_eq_true_iff

/-- Settles O38: each frame of the upstream link, and the coalescing time. -/
theorem upstreamFramesAreSentInTheirOrder : Obligations.UpstreamFramesAreSentInTheirOrder := by
  intro s released
  refine ⟨fun records again sending => ?_, fun records interrupted => ⟨fun up free flow => ?_, fun busy => ?_⟩,
    fun frame pending => ⟨fun up free => ?_, fun busy => ?_⟩, fun frame sending => ?_, fun q qs queue timer => ?_⟩
  · simp only [exec, execReportFrameSent, live_released s released, sending]
  · simp only [exec, execInterruptedReportResend, live_released s released, interrupted]
    exact congrArg _ (if_pos ⟨(linkFree_iff _).mpr ⟨up, free⟩, flow⟩)
  · simp only [exec, execInterruptedReportResend, live_released s released, interrupted]
    refine congrArg _ (if_neg fun ⟨linkFree, flow⟩ => ?_)
    obtain ⟨up, free⟩ := (linkFree_iff _).mp linkFree
    rcases busy with h | h | h
    · exact h up
    · exact h free
    · exact h flow
  · simp only [exec, execFlowFrameSend, live_released s released, pending]
    exact congrArg _ (if_pos ((linkFree_iff _).mpr ⟨up, free⟩))
  · simp only [exec, execFlowFrameSend, live_released s released, pending]
    refine congrArg _ (if_neg fun linkFree => ?_)
    obtain ⟨up, free⟩ := (linkFree_iff _).mp linkFree
    exact busy.elim (fun h => h up) fun h => h free
  · simp only [exec, execFlowFrameEnd, live_released s released, sending]
  · have due : s.coalescingDue = some (q.joined + s.report.timerSetting * 2500) := by
      rw [State.coalescingDue, if_neg (Nat.not_lt.mpr timer), queue]
      rfl
    have dueThen : (s.reach (q.joined + s.report.timerSetting * 2500)).coalescingDue
        = some (q.joined + s.report.timerSetting * 2500) := due
    have setting : (s.reach (q.joined + s.report.timerSetting * 2500)).report.timerSetting = s.report.timerSetting := rfl
    refine ⟨s.reach (q.joined + s.report.timerSetting * 2500), ?_, rfl, ?_⟩
    · simp only [exec, execCoalescingTimerExpiry, live_released s released, due]
      rfl
    · rw [State.timerCondition, setting, if_neg (by omega), if_neg (by omega), dueThen]
      exact decide_eq_true (Nat.le_max_right _ _)

/-! ### The launch and the flow state -/

theorem holdCondition_iff : s.holdCondition = true ↔ 192 ≤ s.report.queue.length
    ∨ ∃ i : SiteIx, (s.site i).run.state = .active ∧ 24 ≤ (s.site i).head.launchQueue.length := by
  simp only [State.holdCondition, State.someQueueAtLeast, Bool.or_eq_true, decide_eq_true_eq, any_allSites]

theorem releaseCondition_iff : s.releaseCondition = true ↔ s.report.queue.length < 128
    ∧ ∀ i : SiteIx, (s.site i).run.state = .active → (s.site i).head.launchQueue.length ≤ 8 := by
  rw [State.releaseCondition, Bool.and_eq_true, decide_eq_true_iff, Bool.not_eq_true', ← Bool.not_eq_true,
    State.someQueueAtLeast, any_allSites]
  refine and_congr_right fun _ => ?_
  simp only [decide_eq_true_eq, not_exists, not_and, Nat.not_le]
  exact forall₂_congr fun _ _ => Nat.lt_succ_iff

theorem readFlow_flowing (flow : s.flow = .flowing) :
    s.readFlow = if s.holdCondition then s.changeFlow .held else s := by
  rw [State.readFlow, flow]

theorem readFlow_held (flow : s.flow = .held) :
    s.readFlow = if s.releaseCondition then s.changeFlow .flowing else s := by
  rw [State.readFlow, flow]

/-- Settles O39: the launch and its conditions, and the four cases of a reading. -/
theorem launchTakesTheOldestEntry : Obligations.LaunchTakesTheOldestEntry := by
  refine ⟨?_, fun s => ⟨fun flow high => ?_, fun flow low short => ?_, fun flow low short => ?_, fun flow high => ?_⟩⟩
  · rintro s i e rest record released queue rfl
    have next : exec (.launch i) s = .next (if s.launchReady i then (s.launchEntry i e rest).readFlow else s) := by
      simp only [exec, execLaunch, live_released s released, queue]
    refine ⟨fun active fine hub room idle list => ?_, fun missing => ?_⟩
    · rw [next, if_pos (show s.launchReady i = true from decide_eq_true ⟨active, fine, hub, room, idle, list⟩)]
      rfl
    · rw [next, if_neg]
      intro ready
      obtain ⟨active, fine, hub, room, idle, list⟩ := of_decide_eq_true ready
      rcases missing with h | h | h | h | h | h
      · exact h active
      · exact h fine
      · exact hub h
      · exact Nat.not_lt.mpr h room
      · exact h idle
      · exact h list
  · rw [readFlow_flowing flow, if_pos (holdCondition_iff.mpr high)]
    rfl
  · rw [readFlow_held flow, if_pos (releaseCondition_iff.mpr ⟨low, short⟩)]
    rfl
  · rw [readFlow_flowing flow, if_neg]
    intro hold
    rcases holdCondition_iff.mp hold with long | ⟨i, active, long⟩
    · omega
    · exact Nat.not_lt.mpr long (short i active)
  · rw [readFlow_held flow, if_neg]
    intro release
    obtain ⟨low, short⟩ := releaseCondition_iff.mp release
    rcases high with long | ⟨i, active, long⟩
    · omega
    · exact Nat.not_lt.mpr (short i active) long

end Sys2Proof.Machine
end

section
/-! BURST: the descriptor and tag checks, and what one burst leaves with each site and with each bank (R14, R25, R42 to R47,
R57, R75). -/
namespace Sys2Proof.Machine

open Sys2Proof.Safety

variable {s t : State} {i : SiteIx} {d : Descriptor} {f : BurstFrame}

/-! ### The descriptor check -/

theorem opOfCode_none {c : Byte} (other : c ∉ ([1, 2, 3] : List Byte)) : Op.ofCode c = none := by
  simp only [List.mem_cons, List.not_mem_nil, or_false, not_or] at other
  rw [Op.ofCode, if_neg other.1, if_neg other.2.1, if_neg other.2.2]

theorem orderOfCode_none {c : Byte} (other : c ∉ ([1, 2] : List Byte)) : Order.ofCode c = none := by
  simp only [List.mem_cons, List.not_mem_nil, or_false, not_or] at other
  rw [Order.ofCode, if_neg other.1, if_neg other.2]

theorem directionOfCode_none {c : Byte} (other : c ∉ ([1, 2] : List Byte)) : Direction.ofCode c = none := by
  simp only [List.mem_cons, List.not_mem_nil, or_false, not_or] at other
  rw [Direction.ofCode, if_neg other.1, if_neg other.2]

theorem dataModeOfCode_none {c : Byte} (other : c ∉ ([1, 2] : List Byte)) : DataMode.ofCode c = none := by
  simp only [List.mem_cons, List.not_mem_nil, or_false, not_or] at other
  rw [DataMode.ofCode, if_neg other.1, if_neg other.2]

/-- A frame whose fields all pass is a descriptor (R25). -/
theorem descriptorOf_some {op : Op} {order : Order} {direction : Direction} {mode : DataMode} (lower : 1 ≤ f.n.toNat)
    (upper : f.n.toNat ≤ 64) (opCode : Op.ofCode f.op = some op) (orderCode : Order.ofCode f.order = some order)
    (directionCode : Direction.ofCode f.direction = some direction) (modeCode : DataMode.ofCode f.dataMode = some mode) :
    descriptorOf f = some ⟨f.tag, op, f.r0, f.c0.setWidth 10, f.n.toNat, order, direction, mode, f.d⟩ := by
  simp only [descriptorOf, opCode, orderCode, directionCode, modeCode]
  exact if_pos ⟨lower, upper⟩

/-- What a descriptor says of its frame (R25). -/
theorem of_descriptorOf (h : descriptorOf f = some d) : (1 ≤ f.n.toNat ∧ f.n.toNat ≤ 64) ∧ d.tag = f.tag
    ∧ Op.ofCode f.op ≠ none ∧ Order.ofCode f.order ≠ none ∧ Direction.ofCode f.direction ≠ none
    ∧ DataMode.ofCode f.dataMode ≠ none := by
  unfold descriptorOf at h
  split at h
  · rename_i op order direction mode
    split at h
    · rename_i count
      cases h
      exact ⟨count, rfl, by simp [op], by simp [order], by simp [direction], by simp [mode]⟩
    · cases h
  · cases h

theorem descriptorOf_none (bad : f.n = 0 ∨ 64 < f.n.toNat ∨ f.op ∉ ([1, 2, 3] : List Byte) ∨ f.order ∉ ([1, 2] : List Byte)
    ∨ f.direction ∉ ([1, 2] : List Byte) ∨ f.dataMode ∉ ([1, 2] : List Byte)) : descriptorOf f = none := by
  refine Option.eq_none_iff_forall_ne_some.mpr fun d h => ?_
  obtain ⟨⟨lower, upper⟩, -, op, order, direction, mode⟩ := of_descriptorOf h
  rcases bad with zero | large | other | other | other | other
  · rw [zero] at lower; exact absurd lower (by decide)
  · omega
  · exact op (opOfCode_none other)
  · exact order (orderOfCode_none other)
  · exact direction (directionOfCode_none other)
  · exact mode (dataModeOfCode_none other)

/-! ### The tag check -/

/-- A site at the tag check: a gap gives MAP_INCOMPLETE to a site in ACTIVE (R42, R43). -/
def Site.tagSeen (x : Site) (gap : Bool) : Site := if gap then x.gapSeen else x

theorem tagSeen_active {x : Site} (active : x.run.state = .active) (gap : Bool) : x.tagSeen gap = { x with
    run := { x.run with mapIncomplete := x.run.mapIncomplete || gap }
    reports := { x.reports with summaryPending := x.reports.summaryPending || (gap && !x.run.mapIncomplete) } } := by
  cases gap with
  | false => simp [Site.tagSeen]
  | true => simp [Site.tagSeen, Site.gapSeen, active]

theorem tagSeen_other {x : Site} (other : x.run.state ≠ .active) (gap : Bool) : x.tagSeen gap = x := by
  cases gap with
  | false => rfl
  | true => exact if_neg other

/-- The tag check keeps of a site its state, its configuration and its Head Port. -/
theorem tagSeen_keeps (x : Site) (gap : Bool) :
    (x.tagSeen gap).run.state = x.run.state ∧ (x.tagSeen gap).config = x.config ∧ (x.tagSeen gap).head = x.head := by
  by_cases active : x.run.state = .active
  · rw [tagSeen_active active]
    exact ⟨rfl, rfl, rfl⟩
  · rw [tagSeen_other active]
    exact ⟨rfl, rfl, rfl⟩

theorem tagGap_eq (s : State) (tag : Half) : s.tagGap tag = s.sorter.lastTag.any (fun last => decide (tag ≠ last + 1)) := by
  unfold State.tagGap
  cases s.sorter.lastTag <;> rfl

/-- The tag check reaches the Frame Sorter and, at a gap, the ACTIVE sites (R42). -/
theorem tagCheck_frame (s : State) (tag : Half) : s.tagCheck tag = { s with
    sites := (s.tagCheck tag).sites
    sorter := { s.sorter with
      lastTag := some tag
      sequenceGaps := if s.tagGap tag then oneMore s.sorter.sequenceGaps else s.sorter.sequenceGaps } } := by
  have counted : s.sequenceGap = { s with
      sites := s.sequenceGap.sites
      sorter := { s.sorter with sequenceGaps := oneMore s.sorter.sequenceGaps } } := by
    rw [State.sequenceGap_eq, sat32_one]
    exact State.modEach_frame _ _ _
  unfold State.tagCheck
  cases gap : s.tagGap tag with
  | false => rfl
  | true =>
    simp only [if_true]
    generalize s.sequenceGap = t at counted
    rw [counted]

theorem site_tagCheck (s : State) (tag : Half) (i : SiteIx) :
    (s.tagCheck tag).site i = (s.site i).tagSeen (s.tagGap tag) := by
  unfold State.tagCheck
  cases gap : s.tagGap tag with
  | false => rfl
  | true =>
    have gapSite : s.sequenceGap.site i = (s.site i).gapSeen := by
      rw [State.sequenceGap_eq, State.site_modEach_allSites]
      rfl
    simp only [if_true]
    generalize s.sequenceGap = t at gapSite
    exact gapSite

/-! ### One site at a burst -/

/-- The bank that a copy for site `i` is bound to, where the site takes one (R44, R45). -/
def State.boundBy (s : State) (i : SiteIx) : List BankRef :=
  if (s.site i).run.state = .active ∧ (s.site i).head.launchQueue.length < 32 then (s.bindingOf i).toList else []

/-- The banks of the copies that site `i` flushes, where its launch queue is full (R47, R49). -/
def State.flushedBy (s : State) (i : SiteIx) : List BankRef :=
  if (s.site i).run.state = .active ∧ 32 ≤ (s.site i).head.launchQueue.length then
    (s.site i).head.launchQueue.map LaunchEntry.bound
  else []

/-- Site `i` after a burst (R44, R45, R47). -/
def State.offered (s : State) (d : Descriptor) (i : SiteIx) : Site :=
  if (s.site i).run.state = .active then
    if (s.site i).head.launchQueue.length < 32 then
      (s.bindingOf i).elim (s.site i) fun r => { s.site i with head := { (s.site i).head with
        launchQueue := (s.site i).head.launchQueue ++ [⟨d, r⟩], copied := ((s.site i).head.copied + 1) % 2 ^ 48 } }
    else ({ s.site i with run := withCause .patternLoss (s.site i).run } : Site).drainStarted
  else s.site i

/-- References to banks added and dropped. -/
def State.rebound (s : State) (bound flushed : List BankRef) : State := (bound.foldl State.addRef s).dropRefs flushed

/-- One site at a burst: its own change, and the references of its copies. -/
theorem offerBurst_eq (s : State) (d : Descriptor) (i : SiteIx) : s.offerBurst d i =
    (s.rebound (s.boundBy i) (s.flushedBy i)).modSite i fun _ => s.offered d i := by
  unfold State.offerBurst State.boundBy State.flushedBy State.offered State.rebound
  by_cases active : (s.site i).run.state = .active
  · by_cases room : (s.site i).head.launchQueue.length < 32
    · simp only [active, room, Nat.not_le.mpr room, and_true, and_false, if_true, if_false, true_and]
      unfold State.copyBurst
      cases s.bindingOf i with
      | none => exact (State.modSite_of_id s i rfl).symm
      | some r =>
        rw [Option.elim_some, Option.elim_some, State.modHead_eq]
        exact State.modSite_congr _ _ rfl
    · simp only [active, room, Nat.not_lt.mp room, and_true, and_false, if_true, if_false]
      rw [State.raiseCauseQuiet_drains (by decide) active]
      refine State.modSite_congr _ _ ?_
      rw [State.site_dropRefs]
  · simp only [active, false_and, if_false]
    exact (State.modSite_of_id s i rfl).symm

/-! ### All sites at a burst -/

theorem addRefs_frame (s : State) (rs : List BankRef) :
    rs.foldl State.addRef s = { s with profiles := (rs.foldl State.addRef s).profiles } := by
  induction rs generalizing s with
  | nil => rfl
  | cons r rs ih => exact ih (s.addRef r)

theorem rebound_frame (s : State) (bound flushed : List BankRef) :
    s.rebound bound flushed = { s with profiles := (s.rebound bound flushed).profiles } := by
  unfold State.rebound
  rw [State.dropRefs_frame, addRefs_frame]

@[simp] theorem site_rebound (s : State) (bound flushed : List BankRef) (i : SiteIx) :
    (s.rebound bound flushed).site i = s.site i := by
  rw [rebound_frame]
  rfl

theorem Profile.Like.trans {p q r : Profile} (h : p.Like q) (h' : q.Like r) : p.Like r :=
  ⟨h'.active.trans h.active, h'.swap.trans h.swap, fun name => (h'.valid name).trans (h.valid name),
    fun name => (h'.tables name).trans (h.tables name)⟩

theorem like_rebound (s : State) (bound flushed : List BankRef) (k : ProfileIx) :
    (s.profile k).Like ((s.rebound bound flushed).profile k) := by
  have added : (s.profile k).Like ((bound.foldl State.addRef s).profile k) := by
    induction bound generalizing s with
    | nil => exact .refl _
    | cons r bound ih => exact (like_addRef r k).trans (ih (s.addRef r))
  exact added.trans (like_dropRefs flushed k)

theorem refCount_addRefs (s : State) (rs : List BankRef) (r : BankRef) :
    ((rs.foldl State.addRef s).bank r).refCount = (s.bank r).refCount + rs.count r := by
  induction rs generalizing s with
  | nil => rfl
  | cons q rs ih =>
    rw [List.foldl_cons, ih, State.bank_addRef, List.count_cons]
    by_cases same : r = q
    · subst same
      simp
      omega
    · simp [same, Ne.symm same]

theorem refCount_rebound (s : State) (bound flushed : List BankRef) (r : BankRef) :
    ((s.rebound bound flushed).bank r).refCount = (s.bank r).refCount + bound.count r - flushed.count r := by
  rw [State.rebound, State.bank_dropRefs, refCount_addRefs]

/-- What site `i` takes and flushes depends on the site, on the pointers and on the banks bound. -/
theorem offered_congr (site : t.site i = s.site i) (active : ∀ k : ProfileIx, (t.profile k).active = (s.profile k).active) :
    t.offered d i = s.offered d i ∧ t.boundBy i = s.boundBy i ∧ t.flushedBy i = s.flushedBy i := by
  have binding : t.bindingOf i = s.bindingOf i := by
    simp only [State.bindingOf, site, active]
  simp only [State.offered, State.boundBy, State.flushedBy, binding, site, and_self]

/-- What a burst leaves after it has been offered to some sites. -/
structure Offered (d : Descriptor) (xs : List SiteIx) (s t : State) : Prop where
  frame : t = { s with sites := t.sites, profiles := t.profiles }
  site (j : SiteIx) : t.site j = if j ∈ xs then s.offered d j else s.site j
  like (k : ProfileIx) : (s.profile k).Like (t.profile k)
  count (r : BankRef) : (xs.flatMap s.flushedBy).count r ≤ (s.bank r).refCount →
    (t.bank r).refCount = (s.bank r).refCount + (xs.flatMap s.boundBy).count r - (xs.flatMap s.flushedBy).count r

theorem flatMap_congr_of_mem {α β : Type} {f g : α → List β} {l : List α} (same : ∀ x ∈ l, f x = g x) :
    l.flatMap f = l.flatMap g := by
  rw [List.flatMap_def, List.flatMap_def, List.map_congr_left same]

/-- Every burst that some sites are offered in turn: each takes it as it stood before the burst. -/
theorem offered_foldl (d : Descriptor) {xs : List SiteIx} (nodup : xs.Nodup) (s : State) :
    Offered d xs s (xs.foldl (State.offerBurst d) s) := by
  induction xs generalizing s with
  | nil => exact ⟨rfl, fun _ => rfl, fun _ => .refl _, fun _ _ => rfl⟩
  | cons i xs ih =>
    obtain ⟨fresh, nodup⟩ := List.nodup_cons.mp nodup
    have first : s.offerBurst d i = (s.rebound (s.boundBy i) (s.flushedBy i)).modSite i fun _ => s.offered d i :=
      offerBurst_eq s d i
    have firstFrame : s.offerBurst d i = { s with
        sites := (s.offerBurst d i).sites, profiles := (s.offerBurst d i).profiles } := by
      rw [first, rebound_frame]
      rfl
    have firstLike (k : ProfileIx) : (s.profile k).Like ((s.offerBurst d i).profile k) := by
      rw [first, State.profile_modSite]
      exact like_rebound s _ _ k
    have firstSite (j : SiteIx) : (s.offerBurst d i).site j = if j = i then s.offered d i else s.site j := by
      rw [first, State.site_modSite]
      simp only [site_rebound]
    have firstCount (r : BankRef) : ((s.offerBurst d i).bank r).refCount
        = (s.bank r).refCount + (s.boundBy i).count r - (s.flushedBy i).count r := by
      rw [first, State.bank_modSite, refCount_rebound]
    obtain ⟨frame, site, like, count⟩ := ih nodup (s.offerBurst d i)
    have others (j : SiteIx) (member : j ∈ xs) : (s.offerBurst d i).offered d j = s.offered d j
        ∧ (s.offerBurst d i).boundBy j = s.boundBy j ∧ (s.offerBurst d i).flushedBy j = s.flushedBy j := by
      have apart : j ≠ i := fun same => fresh (same ▸ member)
      exact offered_congr ((firstSite j).trans (if_neg apart)) fun k => (firstLike k).active
    have bound : xs.flatMap (s.offerBurst d i).boundBy = xs.flatMap s.boundBy :=
      flatMap_congr_of_mem fun j member => (others j member).2.1
    have flushed : xs.flatMap (s.offerBurst d i).flushedBy = xs.flatMap s.flushedBy :=
      flatMap_congr_of_mem fun j member => (others j member).2.2
    refine ⟨?_, fun j => ?_, fun k => (firstLike k).trans (like k), fun r enough => ?_⟩
    · rw [List.foldl_cons]
      generalize xs.foldl (State.offerBurst d) (s.offerBurst d i) = t at frame
      generalize s.offerBurst d i = u at frame firstFrame
      rw [frame, firstFrame]
    · rw [List.foldl_cons, site, firstSite]
      by_cases member : j ∈ xs
      · rw [if_pos member, if_pos (List.mem_cons_of_mem _ member), (others j member).1]
      · by_cases same : j = i
        · rw [if_neg member, if_pos same, if_pos (by rw [same]; exact List.mem_cons_self), same]
        · rw [if_neg member, if_neg same, if_neg (by simp [member, same])]
    · rw [List.flatMap_cons, List.count_append] at enough
      have later := count r (by rw [flushed, firstCount]; omega)
      rw [List.foldl_cons, later, bound, flushed, firstCount, List.flatMap_cons, List.flatMap_cons, List.count_append,
        List.count_append]
      omega

/-! ### A burst -/

theorem someActive_iff : s.someActive = true ↔ ∃ i : SiteIx, (s.site i).run.state = .active := by
  simp only [State.someActive, any_allSites, decide_eq_true_eq]

/-- The hub with a burst's tag checked and the burst counted. -/
def State.burstSeen (s : State) (tag : Half) : State :=
  { s.tagCheck tag with replicator := { (s.tagCheck tag).replicator with bursts := oneMore (s.tagCheck tag).replicator.bursts } }

theorem burstSeen_frame (s : State) (tag : Half) : s.burstSeen tag = { s with
    sites := (s.burstSeen tag).sites
    sorter := { s.sorter with
      lastTag := some tag
      sequenceGaps := if s.tagGap tag then oneMore s.sorter.sequenceGaps else s.sorter.sequenceGaps }
    replicator := { s.replicator with bursts := oneMore s.replicator.bursts } } := by
  have checked := tagCheck_frame s tag
  unfold State.burstSeen
  generalize s.tagCheck tag = t at checked
  rw [checked]

theorem site_burstSeen (s : State) (tag : Half) (i : SiteIx) :
    (s.burstSeen tag).site i = (s.site i).tagSeen (s.tagGap tag) := site_tagCheck s tag i

theorem profile_burstSeen (s : State) (tag : Half) (k : ProfileIx) : (s.burstSeen tag).profile k = s.profile k := by
  rw [burstSeen_frame]
  rfl

theorem someActive_tagCheck (s : State) (tag : Half) : (s.tagCheck tag).someActive = s.someActive := by
  unfold State.someActive
  congr 1
  funext i
  rw [site_tagCheck, (tagSeen_keeps _ _).1]

/-- A burst that finds some site ACTIVE is offered to each site in turn. -/
theorem exec_burst_active (receiving : Receiving s) (is : descriptorOf f = some d)
    (active : ∃ i : SiteIx, (s.site i).run.state = .active) :
    exec (.burst f) s = .next (allSites.foldl (State.offerBurst d) (s.burstSeen f.tag)).readFlow := by
  obtain ⟨-, tag, -⟩ := of_descriptorOf is
  have some : (s.tagCheck f.tag).someActive = true := (someActive_tagCheck s f.tag).trans (someActive_iff.mpr active)
  simp only [exec, execBurst, live_released s receiving.1, receives_of receiving, if_true, is, tag, State.replicate, some]
  rfl

/-- A burst that finds no site ACTIVE (R46). -/
theorem exec_burst_idle (receiving : Receiving s) (is : descriptorOf f = some d)
    (idle : ∀ i : SiteIx, (s.site i).run.state ≠ .active) : exec (.burst f) s = .next { s with
      sorter := { s.sorter with
        lastTag := some f.tag
        sequenceGaps := if s.tagGap f.tag then oneMore s.sorter.sequenceGaps else s.sorter.sequenceGaps }
      replicator := { s.replicator with
        bursts := oneMore s.replicator.bursts, idleBursts := oneMore s.replicator.idleBursts } } := by
  obtain ⟨-, tag, -⟩ := of_descriptorOf is
  have none : (s.tagCheck f.tag).someActive = false := by
    rw [someActive_tagCheck, ← Bool.not_eq_true, someActive_iff]
    exact fun ⟨i, active⟩ => idle i active
  have sites : (s.tagCheck f.tag).sites = s.sites :=
    State.sites_ext _ _ fun i => (site_tagCheck s f.tag i).trans (tagSeen_other (idle i) _)
  simp only [exec, execBurst, live_released s receiving.1, receives_of receiving, if_true, is, tag, State.replicate, none,
    Bool.false_eq_true, if_false, sat32_one]
  have checked := tagCheck_frame s f.tag
  rw [sites] at checked
  rw [checked]

/-- What a burst leaves, seen from the hub before it. -/
structure Spread (s : State) (f : BurstFrame) (d : Descriptor) (gap : Bool) (t : State) : Prop where
  frame : t = { s with
    sites := t.sites, profiles := t.profiles
    sorter := { s.sorter with
      lastTag := some f.tag
      sequenceGaps := if gap then oneMore s.sorter.sequenceGaps else s.sorter.sequenceGaps }
    replicator := { s.replicator with bursts := oneMore s.replicator.bursts } }
  other (i : SiteIx) : (s.site i).run.state ≠ .active → t.site i = s.site i
  copied (i : SiteIx) (k : ProfileIx) : (s.site i).run.state = .active → (s.site i).head.launchQueue.length < 32 →
    (s.site i).config.mode = .profile k → t.site i = { (s.site i).tagSeen gap with head := { (s.site i).head with
      launchQueue := (s.site i).head.launchQueue ++ [⟨d, ⟨k, (s.profile k).active⟩⟩]
      copied := ((s.site i).head.copied + 1) % 2 ^ 48 } }
  full (i : SiteIx) : (s.site i).run.state = .active → 32 ≤ (s.site i).head.launchQueue.length →
    t.site i = ({ (s.site i).tagSeen gap with run := withCause .patternLoss ((s.site i).tagSeen gap).run } : Site).drainStarted
  pointers (k : ProfileIx) : (t.profile k).active = (s.profile k).active ∧ (t.profile k).pendingSwap = (s.profile k).pendingSwap
  bank (k : ProfileIx) (name : BankName) :
    (allSites.flatMap s.flushedBy).count ⟨k, name⟩ ≤ ((s.profile k).bank name).refCount →
    (t.profile k).bank name = { (s.profile k).bank name with
      refCount := ((s.profile k).bank name).refCount
        + (allSites.flatMap s.boundBy).count ⟨k, name⟩ - (allSites.flatMap s.flushedBy).count ⟨k, name⟩ }

theorem bank_of_counted {b c : Bank} {n : Nat} (valid : b.valid = c.valid) (tables : b.tables = c.tables)
    (counted : b.refCount = n) : b = { c with refCount := n } := by
  cases b
  cases valid
  cases tables
  cases counted
  rfl

theorem exec_burst_spread (receiving : Receiving s) (is : descriptorOf f = some d)
    (active : ∃ i : SiteIx, (s.site i).run.state = .active) :
    ∃ t : State, exec (.burst f) s = .next t.readFlow ∧ Spread s f d (s.tagGap f.tag) t := by
  refine ⟨_, exec_burst_active receiving is active, ?_⟩
  obtain ⟨frame, site, like, count⟩ := offered_foldl d nodup_allSites (s.burstSeen f.tag)
  have seenFrame := burstSeen_frame s f.tag
  have seenSite (i : SiteIx) := site_burstSeen s f.tag i
  have seenProfile (k : ProfileIx) := profile_burstSeen s f.tag k
  generalize allSites.foldl (State.offerBurst d) (s.burstSeen f.tag) = t at frame site like count
  generalize s.burstSeen f.tag = q at frame site like count seenFrame seenSite seenProfile
  generalize s.tagGap f.tag = gap at seenFrame seenSite
  have binding (i : SiteIx) : q.bindingOf i = s.bindingOf i := by
    simp only [State.bindingOf, seenSite, (tagSeen_keeps _ _).2.1, seenProfile]
  have bound : q.boundBy = s.boundBy := by
    funext i
    simp only [State.boundBy, seenSite, (tagSeen_keeps _ _).1, (tagSeen_keeps _ _).2.2, binding]
  have flushed : q.flushedBy = s.flushedBy := by
    funext i
    simp only [State.flushedBy, seenSite, (tagSeen_keeps _ _).1, (tagSeen_keeps _ _).2.2]
  have offered (i : SiteIx) : t.site i = q.offered d i := (site i).trans (if_pos (mem_allSites i))
  have state (i : SiteIx) : (q.site i).run.state = (s.site i).run.state := by rw [seenSite, (tagSeen_keeps _ _).1]
  have head (i : SiteIx) : (q.site i).head = (s.site i).head := by rw [seenSite, (tagSeen_keeps _ _).2.2]
  rw [bound, flushed] at count
  refine ⟨?_, fun i other => ?_, fun i k active room mode => ?_, fun i active full => ?_, fun k => ?_, fun k name enough => ?_⟩
  · rw [frame, seenFrame]
  · rw [offered, State.offered, if_neg (by rw [state]; exact other), seenSite, tagSeen_other other]
  · have bank : q.bindingOf i = some ⟨k, (s.profile k).active⟩ := by
      rw [binding]
      simp only [State.bindingOf, mode]
    rw [offered, State.offered, if_pos ((state i).trans active), if_pos (by rw [head]; exact room), bank, Option.elim_some, head,
      seenSite]
  · rw [offered, State.offered, if_pos ((state i).trans active), if_neg (by rw [head]; exact Nat.not_lt.mpr full), seenSite]
  · rw [← seenProfile k]
    exact ⟨(like k).active, (like k).swap⟩
  · have same : q.bank ⟨k, name⟩ = (s.profile k).bank name := by
      rw [State.bank_profile, seenProfile]
    have counted := count ⟨k, name⟩ (by rw [same]; exact enough)
    rw [same] at counted
    have valid := (like k).valid name
    have tables := (like k).tables name
    rw [seenProfile] at valid tables
    exact bank_of_counted valid tables counted

/-! ### The counts of references -/

/-- The references to one bank among lists of at most one, one for each of some sites. -/
theorem count_flatMap_filter {f : SiteIx → List BankRef} {p : SiteIx → Bool} {r : BankRef}
    (one : ∀ i : SiteIx, (f i).count r = if p i then 1 else 0) (xs : List SiteIx) :
    (xs.flatMap f).count r = (xs.filter p).length := by
  induction xs with
  | nil => rfl
  | cons i xs ih =>
    rw [List.flatMap_cons, List.count_append, ih, one, List.filter_cons]
    split
    · rw [List.length_cons, Nat.add_comm]
    · rw [Nat.zero_add]

/-- Lists taken for the sites of a filter alone. -/
theorem flatMap_filter_eq {f : SiteIx → List BankRef} {p : SiteIx → Bool} (xs : List SiteIx) :
    (xs.filter p).flatMap f = xs.flatMap fun i => if p i then f i else [] := by
  induction xs with
  | nil => rfl
  | cons i xs ih =>
    rw [List.flatMap_cons, ← ih, List.filter_cons]
    split
    · rw [List.flatMap_cons]
    · rw [List.nil_append]

theorem count_boundBy (s : State) (k : ProfileIx) (name : BankName) :
    (allSites.flatMap s.boundBy).count ⟨k, name⟩ = (allSites.filter fun i => decide ((s.site i).run.state = .active
      ∧ (s.site i).head.launchQueue.length < 32 ∧ (s.site i).config.mode = .profile k ∧ (s.profile k).active = name)).length := by
  refine count_flatMap_filter (fun i => ?_) allSites
  unfold State.boundBy State.bindingOf
  by_cases takes : (s.site i).run.state = .active ∧ (s.site i).head.launchQueue.length < 32
  · rw [if_pos takes]
    cases mode : (s.site i).config.mode with
    | disabled => simp
    | profile l =>
      by_cases same : l = k
      · subst same
        simp [takes, List.count_singleton]
      · have apart : (⟨l, (s.profile l).active⟩ : BankRef) ≠ ⟨k, name⟩ := fun e => same (congrArg BankRef.profile e)
        simp [same, List.count_singleton, apart]
  · rw [if_neg takes, if_neg (by simpa using fun a b => absurd ⟨a, b⟩ takes)]
    rfl

theorem flushedBy_full (s : State) : allSites.flatMap s.flushedBy = (allSites.filter fun i =>
      decide ((s.site i).run.state = .active ∧ 32 ≤ (s.site i).head.launchQueue.length)).flatMap
        fun i => (s.site i).head.launchQueue.map LaunchEntry.bound := by
  rw [flatMap_filter_eq]
  simp only [decide_eq_true_eq]
  rfl

/-- Settles O17: a frame discarded, an idle burst, and a burst that every ACTIVE site has room for. -/
theorem burstsAreCopiedToTheActiveSites : Obligations.BurstsAreCopiedToTheActiveSites := by
  rintro s f gap receiving rfl
  rw [← tagGap_eq]
  refine ⟨fun bad => ?_, fun op order direction mode lower upper opCode orderCode directionCode modeCode => ?_⟩
  · simp only [exec, execBurst, live_released s receiving.1, receives_of receiving, if_true, descriptorOf_none bad, sat32_one]
  · have is := descriptorOf_some lower upper opCode orderCode directionCode modeCode
    refine ⟨exec_burst_idle receiving is, fun active room => ?_⟩
    obtain ⟨t, next, spread⟩ := exec_burst_spread receiving is active
    have flushed : allSites.flatMap s.flushedBy = [] := by
      rw [flushedBy_full, List.filter_eq_nil_iff.mpr, List.flatMap_nil]
      intro i _
      simp only [decide_eq_true_eq]
      exact fun ⟨active, full⟩ => absurd (room i active).2 (Nat.not_lt.mpr full)
    refine ⟨t, next, spread.other, fun i k active mode => ?_, fun k name => ?_, spread.frame⟩
    · rw [spread.copied i k active (room i active).2 mode, tagSeen_active active]
    · obtain ⟨pointer, swap⟩ := spread.pointers k
      refine ⟨pointer, swap, ?_⟩
      rw [spread.bank k name (by rw [flushed]; exact Nat.zero_le _), flushed, count_boundBy]
      have takers : (fun i => decide ((s.site i).run.state = .active ∧ (s.site i).head.launchQueue.length < 32
          ∧ (s.site i).config.mode = .profile k ∧ (s.profile k).active = name))
          = fun i => decide ((s.site i).run.state = .active ∧ (s.site i).config.mode = .profile k
            ∧ (s.profile k).active = name) := by
        funext i
        refine decide_eq_decide.mpr (and_congr_right fun active => ?_)
        exact and_iff_right (room i active).2
      rw [takers]
      rfl

/-- Settles O18: the sites with full launch queues retired, the others served, at one burst. -/
theorem aFullLaunchQueueLosesTheRun : Obligations.AFullLaunchQueueLosesTheRun := by
  rintro s f d gap full receiving rfl is rfl nonempty served enough
  rw [← tagGap_eq]
  have member (i : SiteIx) : i ∈ (allSites.filter fun i =>
      decide ((s.site i).run.state = .active ∧ 32 ≤ (s.site i).head.launchQueue.length))
      ↔ (s.site i).run.state = .active ∧ 32 ≤ (s.site i).head.launchQueue.length := by
    rw [List.mem_filter, decide_eq_true_iff]
    exact and_iff_right (mem_allSites i)
  obtain ⟨j, here⟩ := List.exists_mem_of_ne_nil _ nonempty
  obtain ⟨t, next, spread⟩ := exec_burst_spread receiving is ⟨j, ((member j).mp here).1⟩
  refine ⟨t, next, ?_, fun i k active room mode => ?_, spread.other, fun k name => ?_, spread.frame⟩
  · rintro i run x lost rfl rfl
    obtain ⟨active, long⟩ := (member i).mp lost
    rw [spread.full i active long, tagSeen_active active]
    rfl
  · have short : (s.site i).head.launchQueue.length < 32 :=
      Nat.not_le.mp fun long => room ((member i).mpr ⟨active, long⟩)
    rw [spread.copied i k active short mode, tagSeen_active active]
  · obtain ⟨pointer, swap⟩ := spread.pointers k
    refine ⟨pointer, swap, ?_⟩
    have bank := spread.bank k name
    rw [flushedBy_full] at bank
    rw [bank (enough ⟨k, name⟩), count_boundBy]
    have takers : (fun i => decide ((s.site i).run.state = .active ∧ (s.site i).head.launchQueue.length < 32
        ∧ (s.site i).config.mode = .profile k ∧ (s.profile k).active = name))
        = fun i => decide ((s.site i).run.state = .active ∧ i ∉ (allSites.filter fun i =>
          decide ((s.site i).run.state = .active ∧ 32 ≤ (s.site i).head.launchQueue.length))
          ∧ (s.site i).config.mode = .profile k ∧ (s.profile k).active = name) := by
      funext i
      refine decide_eq_decide.mpr (and_congr_right fun active => and_congr_left' ?_)
      rw [member, not_and, Nat.not_le]
      exact ⟨fun short _ => short, fun short => short active⟩
    rw [takers]

end Sys2Proof.Machine
end

section
/-! MARK, the series points and the pulses of the mark lines and of MON: what the mark point leaves with each site, each profile
and the Mark Unit (R21, R48, R70, R124 to R132, R139). -/
namespace Sys2Proof.Machine

open Sys2Proof.Safety

variable {s t : State} {i : SiteIx}

/-! ### Swaps and moves -/

theorem mem_allProfiles (k : ProfileIx) : k ∈ allProfiles := by revert k; decide

theorem performSwaps_frame (s : State) : s.performSwaps = { s with profiles := s.performSwaps.profiles } := rfl

theorem profile_performSwaps (s : State) (k : ProfileIx) : s.performSwaps.profile k = (s.profile k).swap := by
  have swapped (xs : List ProfileIx) (nodup : xs.Nodup) (u : State) :
      (xs.foldl (fun t k => t.modProfile k Profile.swap) u).profile k = if k ∈ xs then (u.profile k).swap else u.profile k := by
    induction xs generalizing u with
    | nil => rfl
    | cons l xs ih =>
      obtain ⟨fresh, nodup⟩ := List.nodup_cons.mp nodup
      rw [List.foldl_cons, ih nodup, State.profile_modProfile]
      by_cases same : k = l
      · subst same; simp [fresh]
      · simp [same]
  exact (swapped allProfiles (by decide) s).trans (if_pos (mem_allProfiles k))

/-- A reading of the flow state sees of the sites no more than their states and launch queues. -/
theorem readFlow_withSites {v : Vector Site 8} (state : ∀ j : SiteIx, v[j].run.state = (s.site j).run.state)
    (queue : ∀ j : SiteIx, v[j].head.launchQueue = (s.site j).head.launchQueue) :
    ({ s with sites := v } : State).readFlow = { s.readFlow with sites := v } := by
  have levels (n : Nat) : ({ s with sites := v } : State).someQueueAtLeast n = s.someQueueAtLeast n := by
    unfold State.someQueueAtLeast
    simp only [State.site_mk, state, queue]
  have hold : ({ s with sites := v } : State).holdCondition = s.holdCondition :=
    congrArg (decide (192 ≤ s.report.queue.length) || ·) (levels 24)
  have release : ({ s with sites := v } : State).releaseCondition = s.releaseCondition :=
    congrArg (fun b => decide (s.report.queue.length < 128) && !b) (levels 9)
  have known : s.flow = .flowing ∨ s.flow = .held := by cases s.flow <;> simp
  rcases known with flow | flow
  · rw [readFlow_flowing (s := { s with sites := v }) flow, readFlow_flowing flow, hold]
    split <;> rfl
  · rw [readFlow_held (s := { s with sites := v }) flow, readFlow_held flow, release]
    split <;> rfl

/-! ### The Mark Unit at a frame mark -/

/-- The Mark Unit as it serves a frame mark: the pending setting taken, the series cancelled, the interval measured and the
pulse begun (R124, R125, R130, R139). -/
def MarkUnit.atMark (m : MarkUnit) (now : Nat) : MarkUnit :=
  { ({ m.takeSetting with series := none } : MarkUnit).measure now with monPulse := some (now + 8) }

/-- The Mark Unit once it has served the frame mark (R126 to R129). -/
def MarkUnit.served (m : MarkUnit) : MarkUnit :=
  match m.setting.mode, m.interval with
  | .pass, _ => m
  | .thin, _ => { m with thinCount := (m.thinCount + 1) % m.setting.divider }
  | .multiply, none => m
  | .multiply, some interval =>
    if interval / m.setting.divider < 256 then { m with multTooFast := true }
    else { m with
      series := if 1 < m.setting.divider then some ⟨1, m.setting.divider, interval / m.setting.divider⟩ else none
      multTooFast := false }

theorem seriesPointAt_frame (s : State) (instant : Nat) (leftOut : List SiteIx) :
    s.seriesPointAt instant leftOut = { s with sites := (s.seriesPointAt instant leftOut).sites } := by
  rw [State.seriesPointAt_eq]
  exact State.modEach_frame _ _ _

/-- The service of a frame mark reaches the line marks, the Mark Unit and, where MULT_TOO_FAST is newly set, the hub's flag. -/
theorem serveMark_frame (s : State) (leftOut : List SiteIx) : s.serveMark leftOut = { s with
    sites := (s.serveMark leftOut).sites
    marks := s.marks.served
    report := { s.report with
      hubPending := s.report.hubPending || (s.marks.served.multTooFast && !s.marks.multTooFast) } } := by
  have point := seriesPointAt_frame s s.clock leftOut
  cases mode : s.marks.setting.mode with
  | pass =>
    have served : s.marks.served = s.marks := by simp only [MarkUnit.served, mode]
    have is : s.serveMark leftOut = s.seriesPointAt s.clock leftOut := by simp only [State.serveMark, mode]
    rw [is, served]
    generalize s.seriesPointAt s.clock leftOut = t at point
    rw [point]
    simp
  | thin =>
    have served : s.marks.served
        = { s.marks with thinCount := (s.marks.thinCount + 1) % s.marks.setting.divider } := by
      simp only [MarkUnit.served, mode]
    have is : s.serveMark leftOut = { (if s.marks.thinCount = 0 then s.seriesPointAt s.clock leftOut else s) with
        marks := { (if s.marks.thinCount = 0 then s.seriesPointAt s.clock leftOut else s).marks with
          thinCount := (s.marks.thinCount + 1) % s.marks.setting.divider } } := by
      simp only [State.serveMark, mode]
    rw [is, served]
    generalize s.seriesPointAt s.clock leftOut = t at point
    by_cases zero : s.marks.thinCount = 0
    · rw [if_pos zero, point]
      simp
    · rw [if_neg zero]
      simp
  | multiply =>
    cases measured : s.marks.interval with
    | none =>
      have served : s.marks.served = s.marks := by simp only [MarkUnit.served, mode, measured]
      have is : s.serveMark leftOut = s.seriesPointAt s.clock leftOut := by simp only [State.serveMark, mode, measured]
      rw [is, served]
      generalize s.seriesPointAt s.clock leftOut = t at point
      rw [point]
      simp
    | some interval =>
      by_cases fast : interval / s.marks.setting.divider < 256
      · have served : s.marks.served = { s.marks with multTooFast := true } := by
          simp only [MarkUnit.served, mode, measured, fast, if_true]
        have is : s.serveMark leftOut = s.fallBack leftOut := by
          simp only [State.serveMark, mode, measured, fast, if_true]
        rw [is, served, State.fallBack]
        generalize s.seriesPointAt s.clock leftOut = t at point
        rw [point]
        cases known : s.marks.multTooFast with
        | true => simp [← known]
        | false => simp [State.flagHub]
      · have served : s.marks.served = { s.marks with
            series := if 1 < s.marks.setting.divider then
              some ⟨1, s.marks.setting.divider, interval / s.marks.setting.divider⟩ else none
            multTooFast := false } := by
          simp only [MarkUnit.served, mode, measured, fast, if_false]
        have is : s.serveMark leftOut
            = s.beginSeries leftOut s.marks.setting.divider (interval / s.marks.setting.divider) := by
          simp only [State.serveMark, mode, measured, fast, if_false]
        rw [is, served, State.beginSeries]
        generalize s.seriesPointAt s.clock leftOut = t at point
        rw [point]
        simp

/-! ### The sites at a mark point -/

/-- The line marks of a site after a mark point, by the state before it: a lifecycle mark for a site that moves, else a normal
mark at a series point 0 (R131, R132). -/
def Site.marksAfter (x : Site) (now : Nat) (point : Prop) [Decidable point] : List LineMark :=
  match x.run.state with
  | .armed => markAdded ⟨now + x.marks.offset, 32⟩ x.marks.scheduled
  | .primed => markAdded ⟨now + x.marks.offset, 8⟩ x.marks.scheduled
  | .active | .draining =>
    if point then markAdded ⟨now + x.marks.offset, 8⟩ x.marks.scheduled else x.marks.scheduled
  | _ => x.marks.scheduled

/-- A site that is moved, served at the series point and given its lifecycle mark, in this order. -/
theorem marked_eq (x : Site) (now : Nat) (point : Prop) [Decidable point] :
    (if point then x.promoted.served now (lifecycleWidth x.run.state).isSome else x.promoted).lifecycle x.run.state now
      = { x.promoted with marks := { x.marks with scheduled := x.marksAfter now point } } := by
  unfold Site.marksAfter
  cases state : x.run.state with
  | armed | primed =>
    by_cases h : point <;>
      simp [Site.served, Site.lifecycle, lifecycleWidth, Site.scheduled, Site.promoted, state, h, insertMark_eq]
  | active | draining =>
    by_cases h : point <;>
      simp [Site.served, Site.lifecycle, lifecycleWidth, Site.scheduled, Site.promoted, state, h, insertMark_eq, SiteState.marked]
  | disabled | training | idle | retired | released =>
    by_cases h : point <;>
      simp [Site.served, Site.lifecycle, lifecycleWidth, Site.promoted, state, h, SiteState.marked]

theorem mem_moved (s : State) (j : SiteIx) :
    j ∈ s.moved.map Prod.fst ↔ (lifecycleWidth (s.site j).run.state).isSome = true := by
  simp only [State.moved, List.mem_map, List.mem_filterMap, Option.map_eq_some_iff, Option.isSome_iff_exists]
  constructor
  · rintro ⟨_, ⟨i, -, w, width, rfl⟩, rfl⟩
    exact ⟨w, width⟩
  · rintro ⟨w, width⟩
    exact ⟨(j, w), ⟨j, mem_allSites j, w, width, rfl⟩, rfl⟩

/-- The hub once the swaps are performed, the sites moved and the frame mark counted, before the Mark Unit acts. -/
def State.promotedAll (s : State) : State :=
  let t := (allSites.foldl State.promote s.performSwaps).readFlow
  { t with replicator := { t.replicator with frameMarks := oneMore t.replicator.frameMarks } }

theorem promotedAll_frame (s : State) : ∃ v : State,
    v = { s with profiles := s.performSwaps.profiles, sites := v.sites } ∧ (∀ j : SiteIx, v.site j = (s.site j).promoted)
    ∧ s.promotedAll = { v.readFlow with
        replicator := { s.replicator with frameMarks := oneMore s.replicator.frameMarks } } := by
  have sites (j : SiteIx) : (allSites.foldl State.promote s.performSwaps).site j = (s.site j).promoted := by
    rw [State.promoteAll_eq, State.site_modEach_allSites, State.site_performSwaps]
  have frame := State.modEach_frame s.performSwaps allSites fun _ => Site.promoted
  rw [← State.promoteAll_eq] at frame
  have swaps := performSwaps_frame s
  unfold State.promotedAll
  generalize allSites.foldl State.promote s.performSwaps = v at frame sites
  generalize s.performSwaps = w at frame swaps
  have whole : v = { s with profiles := w.profiles, sites := v.sites } := by
    rw [frame, swaps]
  have replicator : v.readFlow.replicator = s.replicator := by
    rw [State.readFlow_frame]
    show v.replicator = s.replicator
    rw [whole]
  refine ⟨v, whole, sites, ?_⟩
  simp only [replicator]

/-- The Mark Unit's part of a mark point: the mark served under the mode in force, then the lifecycle marks. -/
theorem frameMark_frame (s u : State) : u.frameMark s.moved = { u with
    sites := (u.frameMark s.moved).sites
    marks := (u.marks.atMark u.clock).served
    report := { u.report with
      hubPending := u.report.hubPending || ((u.marks.atMark u.clock).served.multTooFast && !(u.marks.atMark u.clock).multTooFast) } } := by
  have service := serveMark_frame ({ u with marks := u.marks.atMark u.clock } : State) (s.moved.map Prod.fst)
  have lifecycle := State.modEach_frame (({ u with marks := u.marks.atMark u.clock } : State).serveMark (s.moved.map Prod.fst))
    allSites fun j x => x.lifecycle (s.site j).run.state u.clock
  rw [← State.lifecycle_eq] at lifecycle
  have is : u.frameMark s.moved = s.moved.foldl (fun t p => t.scheduleMark p.1 u.clock p.2)
    (({ u with marks := u.marks.atMark u.clock } : State).serveMark (s.moved.map Prod.fst)) := rfl
  rw [is]
  generalize ({ u with marks := u.marks.atMark u.clock } : State).serveMark (s.moved.map Prod.fst) = v at service lifecycle
  refine lifecycle.trans ?_
  rw [service]
  rfl

theorem site_frameMark (s u : State) (j : SiteIx) (promoted : u.site j = (s.site j).promoted) :
    (u.frameMark s.moved).site j = { (s.site j).promoted with marks := { (s.site j).marks with
      scheduled := (s.site j).marksAfter u.clock
        ((u.marks.atMark u.clock).setting.mode ≠ .thin ∨ (u.marks.atMark u.clock).thinCount = 0) } } := by
  have is : u.frameMark s.moved = (({ u with marks := u.marks.atMark u.clock } : State).serveMark
      (s.moved.map Prod.fst)).modEach allSites fun j x => x.lifecycle (s.site j).run.state u.clock :=
    State.lifecycle_eq _ _ _
  have out : decide (j ∈ s.moved.map Prod.fst) = (lifecycleWidth (s.site j).run.state).isSome :=
    Bool.eq_iff_iff.mpr (decide_eq_true_iff.trans (mem_moved s j))
  rw [is, State.site_modEach_allSites, State.site_serveMark, State.site_withMarks, promoted, out]
  exact marked_eq (s.site j) u.clock _

/-- MARK out of SELFTEST: the Mark Unit's part after the swaps and the moves. -/
theorem exec_mark (released : Released s) (awake : s.hub ≠ .selftest) :
    exec .mark s = .next (s.promotedAll.frameMark s.moved) := by
  simp only [exec, execMark, live_released s released, awake, if_false, State.markPoint, State.promotedAll, sat32_one]

/-- A site after a mark point. -/
def State.marked (s : State) (i : SiteIx) : Site :=
  { (s.site i).promoted with marks := { (s.site i).marks with
    scheduled := (s.site i).marksAfter s.clock
      ((s.marks.atMark s.clock).setting.mode ≠ .thin ∨ (s.marks.atMark s.clock).thinCount = 0) } }

theorem marked_keeps (s : State) (i : SiteIx) : (s.marked i).run.state = (s.site i).promoted.run.state
    ∧ (s.marked i).head = (s.site i).head := ⟨rfl, rfl⟩

theorem setting_atMark (m : MarkUnit) (now : Nat) :
    (m.atMark now).setting = m.pendingSetting.getD m.setting ∧ (m.atMark now).pendingSetting = none := by
  unfold MarkUnit.atMark MarkUnit.measure MarkUnit.takeSetting
  cases pending : m.pendingSetting with
  | none => exact ⟨rfl, pending⟩
  | some p => exact ⟨rfl, rfl⟩

theorem thinCount_atMark (m : MarkUnit) (now : Nat) :
    (m.atMark now).thinCount = if m.pendingSetting.isSome then 0 else m.thinCount := by
  unfold MarkUnit.atMark MarkUnit.measure MarkUnit.takeSetting
  cases m.pendingSetting <;> rfl

theorem interval_atMark (m : MarkUnit) (now : Nat) :
    (m.atMark now).interval = m.lastFrameMark.elim m.interval fun last => some (min (now - last) (2 ^ 32 - 1)) := by
  unfold MarkUnit.atMark MarkUnit.measure MarkUnit.takeSetting
  cases m.pendingSetting <;> cases m.lastFrameMark <;> rfl

/-- A pending setting that leaves MULTIPLY clears MULT_TOO_FAST (R125). -/
theorem tooFast_atMark (m : MarkUnit) (now : Nat) : (m.atMark now).multTooFast =
    (m.multTooFast && !decide (m.setting.mode = .multiply ∧ (m.atMark now).setting.mode ≠ .multiply)) := by
  unfold MarkUnit.atMark MarkUnit.measure MarkUnit.takeSetting
  cases m.pendingSetting with
  | none => simp
  | some p => rfl

theorem monSelect_atMark (m : MarkUnit) (now : Nat) : (m.atMark now).monSelect = m.monSelect := by
  unfold MarkUnit.atMark MarkUnit.measure MarkUnit.takeSetting
  cases m.pendingSetting <;> rfl

/-- The service of a frame mark touches the thin count, the series and MULT_TOO_FAST alone (R126 to R129). -/
theorem served_keeps (m : MarkUnit) : m.served.setting = m.setting ∧ m.served.pendingSetting = m.pendingSetting
    ∧ m.served.lastFrameMark = m.lastFrameMark ∧ m.served.interval = m.interval ∧ m.served.monSelect = m.monSelect
    ∧ m.served.monPulse = m.monPulse := by
  unfold MarkUnit.served
  split
  · simp
  · simp
  · simp
  · split <;> simp

theorem thinCount_served (m : MarkUnit) : m.served.thinCount =
    if m.setting.mode = .thin then (m.thinCount + 1) % m.setting.divider else m.thinCount := by
  unfold MarkUnit.served
  split
  · rename_i mode; simp [mode]
  · rename_i mode; simp [mode]
  · rename_i mode _; simp [mode]
  · rename_i mode _; split <;> simp [mode]

/-- Only the service under MULTIPLY touches MULT_TOO_FAST (R128, R129). -/
theorem tooFast_served {m : MarkUnit} (other : m.setting.mode ≠ .multiply) :
    m.served.multTooFast = m.multTooFast ∧ m.served.series = m.series := by
  unfold MarkUnit.served
  cases mode : m.setting.mode with
  | pass => exact ⟨rfl, rfl⟩
  | thin => exact ⟨rfl, rfl⟩
  | multiply => exact absurd mode other

/-- MULT_TOO_FAST taken off by a setting that leaves MULTIPLY is not set again by the mark that it serves (R125, R129). -/
theorem newlyTooFast_eq (m : MarkUnit) (now : Nat) : ((m.atMark now).served.multTooFast && !(m.atMark now).multTooFast)
    = ((m.atMark now).served.multTooFast && !m.multTooFast) := by
  by_cases leaves : m.setting.mode = .multiply ∧ (m.atMark now).setting.mode ≠ .multiply
  · have off : (m.atMark now).multTooFast = false := by
      rw [tooFast_atMark, decide_eq_true leaves]
      exact Bool.and_false _
    rw [(tooFast_served leaves.2).1, off]
    rfl
  · rw [tooFast_atMark, decide_eq_false leaves]
    simp

/-- The hub after a mark point, as the statements give it. -/
theorem markPoint_eq (s : State) : ∃ t u : State, s.promotedAll.frameMark s.moved = t
    ∧ u = ({ s with profiles := t.profiles, sites := t.sites } : State).readFlow
    ∧ (∀ k : ProfileIx, t.profile k = (s.profile k).swap) ∧ (∀ i : SiteIx, t.site i = s.marked i)
    ∧ t = { u with
        replicator := { s.replicator with frameMarks := oneMore s.replicator.frameMarks }
        marks := (s.marks.atMark s.clock).served
        report := { u.report with
          hubPending := u.report.hubPending || ((s.marks.atMark s.clock).served.multTooFast && !s.marks.multTooFast) } } := by
  obtain ⟨v, whole, sites, promoted⟩ := promotedAll_frame s
  have clock : s.promotedAll.clock = s.clock := by
    rw [promoted]
    show v.readFlow.clock = s.clock
    rw [State.clock_readFlow, whole]
  have marks : s.promotedAll.marks = s.marks := by
    rw [promoted]
    show v.readFlow.marks = s.marks
    rw [State.readFlow_frame]
    show v.marks = s.marks
    rw [whole]
  have moved (j : SiteIx) : s.promotedAll.site j = (s.site j).promoted := by
    rw [promoted]
    show v.readFlow.site j = _
    rw [State.site_readFlow, sites]
  have frame := frameMark_frame s s.promotedAll
  have site (j : SiteIx) := site_frameMark s s.promotedAll j (moved j)
  rw [clock, marks] at frame
  simp only [clock, marks] at site
  rw [newlyTooFast_eq] at frame
  have swaps := profile_performSwaps s
  generalize s.promotedAll.frameMark s.moved = t at frame site
  generalize s.promotedAll = p at frame promoted
  generalize s.performSwaps = w at whole swaps
  have profiles : t.profiles = w.profiles := by
    have fromRead : v.readFlow.profiles = w.profiles := by
      rw [State.readFlow_frame, whole]
    rw [frame, promoted, fromRead]
  have read : ({ s with profiles := t.profiles, sites := t.sites } : State).readFlow = { v.readFlow with sites := t.sites } := by
    have same : ({ s with profiles := t.profiles, sites := t.sites } : State) = { v with sites := t.sites } := by
      rw [profiles, whole]
    rw [same]
    refine readFlow_withSites (fun j => ?_) fun j => ?_
    · show (t.site j).run.state = _
      rw [site, sites]
    · show (t.site j).head.launchQueue = _
      rw [site, sites]
  refine ⟨t, _, rfl, rfl, fun k => ?_, site, ?_⟩
  · rw [← swaps]
    exact congrArg (fun ps : Vector Profile 4 => ps[k]) profiles
  · refine frame.trans ?_
    have clockRead : v.readFlow.clock = s.clock := by rw [State.clock_readFlow, whole]
    rw [read, promoted, ← clockRead]

/-- Settles O19: the swaps, the moves with their reading of the flow state, the count, the interval and the settings. -/
theorem theMarkPointSwapsMovesAndCounts : Obligations.TheMarkPointSwapsMovesAndCounts := by
  intro s released
  refine ⟨fun testing => ?_, fun awake => ?_⟩
  · simp only [exec, execMark, live_released s released, testing, if_true]
  · obtain ⟨t, u, is, read, profile, site, whole⟩ := markPoint_eq s
    have marks : t.marks = (s.marks.atMark s.clock).served := by rw [whole]
    have replicator : t.replicator = { s.replicator with frameMarks := oneMore s.replicator.frameMarks } := by rw [whole]
    obtain ⟨setting, pending, last, interval, select, pulse⟩ := served_keeps (s.marks.atMark s.clock)
    refine ⟨t, u, by rw [exec_mark released awake, is], read, profile, fun i => ?_, replicator, ?_, ?_, ?_, ?_, ?_, ?_, ?_⟩
    · rw [site]
      rfl
    · rw [marks, last]
      rfl
    · rw [marks, interval, interval_atMark]
      cases s.marks.lastFrameMark <;> rfl
    · rw [marks, setting, (setting_atMark _ _).1]
    · rw [marks, pending, (setting_atMark _ _).2]
    · rw [marks, select, monSelect_atMark]
    · rw [marks, pulse]
      rfl
    · rw [marks, replicator]
      exact whole

/-- Settles O20: the line marks of each site, the thin count, and the series under MULTIPLY with its fallback. -/
theorem frameMarksAreServedByTheModeInForce : Obligations.FrameMarksAreServedByTheModeInForce := by
  rintro s m thin interval released awake rfl rfl measure
  have measured : interval = (s.marks.atMark s.clock).interval := by
    rw [measure, interval_atMark]
    cases s.marks.lastFrameMark <;> rfl
  subst measured
  obtain ⟨t, u, is, -, -, site, whole⟩ := markPoint_eq s
  have marks : t.marks = (s.marks.atMark s.clock).served := by rw [whole]
  have hub : t.report.hubPending
      = (u.report.hubPending || ((s.marks.atMark s.clock).served.multTooFast && !s.marks.multTooFast)) := by rw [whole]
  rw [← (setting_atMark s.marks s.clock).1, ← thinCount_atMark s.marks s.clock]
  have tooFast := tooFast_atMark s.marks s.clock
  have series : (s.marks.atMark s.clock).series = none := rfl
  refine ⟨t, by rw [exec_mark released awake, is], ?_⟩
  rw [marks]
  refine ⟨fun i => ?_, thinCount_served _, fun other => ⟨?_, fun left => ?_, fun was => ?_⟩,
    fun mode unmeasured => ?_, fun ticks mode measured fast => ?_, fun ticks mode measured slow => ?_⟩
  · rw [site]
    rfl
  · rw [(tooFast_served other).2, series]
  · rw [(tooFast_served other).1, tooFast, decide_eq_true ⟨left, other⟩]
    exact Bool.and_false _
  · rw [(tooFast_served other).1, tooFast, decide_eq_false fun h => was h.1]
    exact Bool.and_true _
  · have same : (s.marks.atMark s.clock).served = s.marks.atMark s.clock := by
      simp only [MarkUnit.served, mode, unmeasured]
    rw [same, tooFast, decide_eq_false fun h => h.2 mode]
    exact ⟨series, Bool.and_true _⟩
  · have is : (s.marks.atMark s.clock).served = { s.marks.atMark s.clock with multTooFast := true } := by
      simp only [MarkUnit.served, mode, measured, fast, if_true]
    rw [is] at hub ⊢
    refine ⟨series, rfl, fun clear => ?_⟩
    rw [hub, clear]
    exact Bool.or_true _
  · simp only [MarkUnit.served, mode, measured, Nat.not_lt.mpr slow, if_false, and_self]

/-! ### Series points, pulses and MON -/

theorem marked_iff (st : SiteState) : st.marked = true ↔ st = .primed ∨ st = .active ∨ st = .draining := by
  cases st <;> simp [SiteState.marked]

/-- Settles O21: the series point, the three line events, and the level of MON for each source. -/
theorem seriesPointsAndLinePulses : Obligations.SeriesPointsAndLinePulses := by
  intro s i released
  refine ⟨?_, fun m rest scheduled => ?_, fun e line none => ?_, fun e pulse => ?_, ?_⟩
  · rintro x first point series last rfl
    have due : s.seriesDue = some (first + x.next * x.spacing) := by
      simp only [State.seriesDue, series, last]
    have frame := seriesPointAt_frame (s.reach (first + x.next * x.spacing)) (first + x.next * x.spacing) []
    have site (j : SiteIx) : ((s.reach (first + x.next * x.spacing)).seriesPointAt (first + x.next * x.spacing) []).site j
        = (s.site j).served (first + x.next * x.spacing) false := by
      rw [State.seriesPointAt_eq, State.site_modEach_allSites]
      simp only [List.not_mem_nil, decide_false, State.site_reach]
    simp only [exec, execSeriesPoint, live_released s released, due, Option.elim_some, series, Option.bind_some]
    generalize (s.reach (first + x.next * x.spacing)).seriesPointAt (first + x.next * x.spacing) [] = t at frame site
    refine ⟨_, rfl, fun j => ?_, ?_⟩
    · rw [State.site_withMarks, site, Site.served]
      simp only [marked_iff, and_true]
      split
      · rw [← insertMark_eq]; rfl
      · rfl
    · rw [frame]
      rfl
  · have raised : (fun x : SiteMarks => { x with scheduled := rest, line := x.line.raise (m.due + m.width) })
        = fun x : SiteMarks => { x with
            scheduled := rest
            line := match x.line with
              | .low => .high (m.due + m.width)
              | .high e => .high (max e (m.due + m.width)) } := by
      funext x
      cases x.line <;> rfl
    simp only [exec, execLineMarkDue, live_released s released, scheduled]
    exact congrArg (fun f => Host.Outcome.next ((s.reach m.due).modMarks i f)) raised
  · have ends : (s.site i).marks.pulseEnd = some e := by
      have clear : ((s.site i).marks.scheduled.any fun x => decide (x.due < e)) = false := by
        simpa using none
      simp only [SiteMarks.pulseEnd, line, clear, Bool.false_eq_true, if_false]
    simp only [exec, execLinePulseEnd, live_released s released, ends, Option.elim_some]
    rfl
  · simp only [exec, execMonPulseEnd, live_released s released, pulse, Option.elim_some]
    rfl
  · unfold State.monLevel
    cases s.marks.monSelect with
    | none => rfl
    | frameMark => cases s.marks.monPulse <;> rfl
    | site j => simp only [ne_eq, decide_not, Bool.not_eq_true', decide_eq_false_iff_not, ite_not]
    | held => simp only [decide_eq_true_eq]
    | holdover => simp only [decide_eq_true_eq]

end Sys2Proof.Machine
end

section
/-! Head links: the frames that end in their time, training to FINE lock, a loss of it, and the deadlines and limits that retire a
site (R36, R38, R55, R66, R69, R77, R81, R93, R141 to R145). -/
namespace Sys2Proof.Machine

open Sys2Proof.Safety

variable {s t : State} {i : SiteIx} {y : Site}

/-! ### Frames toward the head -/

theorem unit_eq (rate : LinkRate) : rate.unit = if rate = .full then 250 else 500 := by
  cases rate <;> rfl

/-- A frame has sent all its vectors once its header time and its vector times have gone (R55). -/
theorem vectorsGone_all {rate : LinkRate} {elapsed n : Nat} (gone : (n + 1) * rate.unit ≤ elapsed) :
    vectorsGone rate elapsed n = n := by
  have positive : 0 < rate.unit := by cases rate <;> decide
  have units : n + 1 ≤ elapsed / rate.unit := (Nat.le_div_iff_mul_le positive).mpr gone
  rw [vectorsGone, ← unit_eq]
  omega

theorem lastSent_idle (idle : (s.site i).head.expander = .idle) (check : CheckSent) :
    lastSent s i check = (s.site i).head.sent := by
  simp only [lastSent, idle]

theorem lastBlock_idle (idle : (s.site i).head.expander = .idle) : lastBlock s i = (s.site i).head.sent := by
  simp only [lastBlock, idle]

theorem lastSent_control {kind : ControlKind} {began : Nat} (sending : (s.site i).head.expander = .control kind began)
    (check : CheckSent) : lastSent s i check = some ⟨.control kind i, check⟩ := by
  simp only [lastSent, sending]

/-- A VECTOR_BLOCK frame that has had its time shows all its vectors (R35, R55). -/
theorem lastSent_whole {record : InFlight} {began : Nat} (sending : (s.site i).head.expander = .sending record began)
    (gone : (record.desc.n + 1) * (s.site i).head.rate.unit ≤ s.clock - began) (check : CheckSent) :
    lastSent s i check = some ⟨.vectorBlock record.desc.tag record.desc.n
      ((List.range record.desc.n).map (vectorAt (s.bank record.bound).tables record.desc)), check⟩ := by
  simp only [lastSent, sending, vectorsGone_all gone]

/-- Settles O40: the end of a VECTOR_BLOCK frame, the sending of a control frame, and its end. -/
theorem framesTowardTheHeadEndInTheirTime : Obligations.FramesTowardTheHeadEndInTheirTime := by
  rintro s i unit began released rfl
  rw [← unit_eq]
  refine ⟨fun record sending => ?_, fun kind rest list => ⟨fun fine idle => ?_, fun busy => ?_⟩,
    fun kind sending => ⟨fun stays => ?_, fun release gone => ?_⟩⟩
  · have ends : s.frameEnds i = some (began + (record.desc.n + 1) * (s.site i).head.rate.unit) := by
      simp only [State.frameEnds, sending]
    simp only [exec, execVectorBlockEnd, live_released s released, sending, ends, Option.elim_some]
    have sent := lastSent_whole (s := s.reach (began + (record.desc.n + 1) * (s.site i).head.rate.unit)) sending
      (Nat.le_sub_of_add_le' (Nat.le_max_right _ _)) .good
    rw [State.endFrame_eq, sent]
    rfl
  · simp only [exec, execControlFrameSend, live_released s released, list]
    rw [if_pos (show (s.site i).head.controlReady = true from decide_eq_true ⟨fine, idle⟩)]
    rfl
  · simp only [exec, execControlFrameSend, live_released s released, list]
    rw [if_neg]
    intro ready
    obtain ⟨fine, idle⟩ := of_decide_eq_true ready
    exact busy.elim (fun h => h fine) fun h => h idle
  · have ends : s.frameEnds i = some (began + (s.site i).head.rate.unit) := by
      simp only [State.frameEnds, sending]
    simp only [exec, execControlFrameEnd, live_released s released, sending, ends, Option.elim_some]
    have sent := lastSent_control (s := s.reach (began + (s.site i).head.rate.unit)) sending .good
    rw [State.controlSent, if_neg (by simp only [State.site_reach]; grind), State.endFrame_eq, sent]
    rfl
  · have ends : s.frameEnds i = some (began + (s.site i).head.rate.unit) := by
      simp only [State.frameEnds, sending]
    simp only [exec, execControlFrameEnd, live_released s released, sending, ends, Option.elim_some]
    have sent := lastSent_control (s := s.reach (began + (s.site i).head.rate.unit)) sending .good
    rw [State.controlSent, if_pos ⟨release, gone⟩, State.endFrame_eq, sent, State.linkDown_eq,
      lastSent_idle (by rw [State.site_modSite_same]), State.site_modSite_same, State.modSite_modSite]
    rfl

/-! ### Training to FINE lock -/

theorem goodTrain_some (i : SiteIx) (x : TrainFrame) : goodTrain i (some x) = decide (x.site.toNat % 8 = i.val) := rfl

/-- A TRAIN frame that does not echo the site number is no good one. -/
theorem goodTrain_false {f : Option TrainFrame} (other : ∀ y : TrainFrame, f = some y → y.site.toNat % 8 ≠ i.val) :
    goodTrain i f = false := by
  cases f with
  | none => rfl
  | some x => exact decide_eq_false (other x rfl)

/-- Settles O41: a driven-down link, and an enabled one in each lock state. -/
theorem fourTrainFramesBringFineLock : Obligations.FourTrainFramesBringFineLock := by
  intro s i f released
  simp only [exec, execPatternRecognised, execHeadSymbolLockLoss, execTrainFrameReceived, live_released s released]
  refine ⟨fun down => ?_, fun enabled => ⟨fun fine => ?_, fun lockDown => ?_, fun coarse => ⟨?_, ?_, fun other => ?_,
    fun x is echo => ⟨fun few => ?_, fun enough => ?_⟩⟩⟩⟩
  · simp [down]
  · simp [enabled, fine]
  · simp [enabled, lockDown]
  · simp [enabled, coarse]
  · simp [enabled, coarse]
  · simp [enabled, coarse, goodTrain_false other, State.coarseFrame]
  · subst is
    have more : ¬(s.site i).head.trainRun + 1 ≥ 4 := by omega
    simp [enabled, coarse, goodTrain_some, echo, State.coarseFrame, more]
  · subst is
    have four : (s.site i).head.trainRun + 1 ≥ 4 := by omega
    simp only [enabled, coarse, goodTrain_some, echo, State.coarseFrame, four, decide_true, if_true, State.gainFine_eq]

/-! ### A loss of FINE lock -/

/-- The two ways in which an enabled link loses FINE lock (R143). -/
theorem exec_loseFine {c : Instr} {target : LockState} {run : Nat} (hearing : Hearing s i)
    (how : (c = .headSymbolLockLoss i ∧ target = .down ∧ run = 0)
      ∨ (∃ x : TrainFrame, c = .trainFrameReceived i (some x) ∧ target = .coarse
          ∧ run = if x.site.toNat % 8 = i.val then 1 else 0)) :
    exec c s = .next (s.loseFine i target run) := by
  obtain ⟨released, enabled, fine⟩ := hearing
  rcases how with ⟨rfl, rfl, rfl⟩ | ⟨x, rfl, rfl, rfl⟩
  · simp only [exec, execHeadSymbolLockLoss, live_released s released, enabled, fine, if_true]
  · simp only [exec, execTrainFrameReceived, live_released s released, enabled, fine, if_true, Option.isSome_some, goodTrain_some,
      decide_eq_true_eq]

/-- Settles O42: what each site state makes of the loss. -/
theorem lossOfFineLockActsByTheSiteState : Obligations.LossOfFineLockActsByTheSiteState := by
  intro s i c target run y z hearing how is isCause
  have lost : (s.modSite i fun x => x.unlocked target run (lastSent s i .inverted)) = s.modSite i fun _ => y := by
    refine State.modSite_congr s i ?_
    rw [is]
    simp only [Site.unlocked, sat32_one]
  have state : y.run.state = (s.site i).run.state := by rw [is]
  have idle : y.head.expander = .idle := by rw [is]
  have here : (s.modSite i fun _ => y).site i = y := State.site_modSite_same _ _ _
  rw [exec_loseFine hearing how, State.loseFine_eq, lost]
  refine ⟨fun trains => ?_, fun gone => ?_, fun before => ?_, fun running => ?_, fun retired => ?_⟩
  · rw [trains]
    simp only [State.enterTraining_eq, State.modSite_modSite]
    rfl
  · rw [gone]
    simp only [State.linkDown_eq, State.modSite_modSite]
    rw [lastSent_idle (by rw [here]; exact idle), here]
    refine congrArg Host.Outcome.next (State.modSite_congr s i ?_)
    simp only [idle]
  · have raised : (s.modSite i fun _ => y).raiseCause i .linkLost = (s.modSite i fun _ => retiredSite z).readFlow := by
      rw [State.raiseCause, State.raiseCauseQuiet_before _ _ .linkLost (by decide) (by rw [here, state]; exact before),
        State.modSite_modSite, isCause]
    rcases before with h | h <;> rw [h] <;> simp only [raised]
  · have raised : (s.modSite i fun _ => y).raiseCause i .linkLost
        = ((s.dropRefs (copiesLost (s.site i))).modSite i fun _ => abandonedSite z).readFlow := by
      have copies : copiesLost y = copiesLost (s.site i) := by
        rw [is]
        rfl
      rw [State.raiseCause, State.raiseCauseQuiet_abandoning _ _ .linkLost rfl (by rw [here, state]; exact running), here, copies,
        State.dropRefs_modSite, State.modSite_modSite, lastBlock_idle (by rw [here]; exact idle), here, isCause]
    rcases running with h | h <;> rw [h] <;> simp only [raised]
  · have raised : (s.modSite i fun _ => y).raiseCause i .linkLost = (s.modSite i fun _ => { z with
        reports := { z.reports with
          summaryPending := z.reports.summaryPending || decide (z.run ≠ y.run) } }).readFlow := by
      rw [State.raiseCause, State.raiseCauseQuiet_recorded _ _ .linkLost (Or.inl (by rw [here, state, retired]; rfl)),
        State.recordCause_eq, State.modSite_modSite, isCause]
    rw [retired]
    simp only [raised]

/-! ### Deadlines and training limits -/

theorem firstDeadline_eq {q : InFlight} (member : q ∈ (s.site i).head.inFlight)
    (first : ∀ p ∈ (s.site i).head.inFlight, q.deadline ≤ p.deadline) : s.firstDeadline i = some q.deadline := by
  refine List.min?_eq_some_iff.mpr ⟨List.mem_map_of_mem member, fun d hd => ?_⟩
  obtain ⟨p, hp, rfl⟩ := List.mem_map.mp hd
  exact first p hp

/-- Settles O43: the earliest deadline, no deadline, and the training limit. -/
theorem deadlinesAndTrainingLimitsRetire : Obligations.DeadlinesAndTrainingLimitsRetire := by
  intro s u i released
  refine ⟨?_, fun empty => ?_, fun limit training set => ?_, fun other => ?_⟩
  · rintro q member first rfl running
    have raised := State.raiseCauseQuiet_abandoning (s.reach q.deadline) i .silent rfl running
    simp only [exec, execDeadlineExpiry, live_released s released, firstDeadline_eq member first, Option.elim_some,
      State.raiseCause, raised]
    rfl
  · have none : s.firstDeadline i = none := by rw [State.firstDeadline, empty]; rfl
    simp only [exec, execDeadlineExpiry, live_released s released, none, Option.elim_none]
  · simp only [exec, execTrainingLimitExpiry, live_released s released, training, set, if_true, Option.elim_some,
      State.trainFail, State.recordCause_eq, State.modRun_eq, State.enter_eq, State.modSite_modSite]
    rfl
  · simp only [exec, execTrainingLimitExpiry, live_released s released, other, if_false]

end Sys2Proof.Machine
end

section
/-! RESULT frames: those that nothing takes, the match, and the records that leave with it (R37, R76, R85 to R91, R146). -/
namespace Sys2Proof.Machine

open Sys2Proof.Safety

variable {s t : State} {i : SiteIx} {older newer : List InFlight} {record : InFlight} {tag : Half}

/-! ### Frames that nothing takes -/

theorem resultDone_none {status : Byte} (done : status ≠ 1) (aborted : status ≠ 2) : resultDone status = none := by
  rw [resultDone, if_neg done, if_neg aborted]

theorem resultDone_some {status : Byte} (known : status = 1 ∨ status = 2) : ∃ done : Bool, resultDone status = some done := by
  rcases known with rfl | rfl
  · exact ⟨true, rfl⟩
  · exact ⟨false, rfl⟩

/-- A link that is driven down or in DOWN receives nothing, one in COARSE discards the frame and ends the run (R146). -/
theorem fromHead_outside (s : State) (i : SiteIx) (take : State → State) :
    ((s.site i).head.drive = .drivenDown ∨ (s.site i).head.lock = .down → s.fromHead i take = s)
    ∧ ((s.site i).head.drive = .enabled → (s.site i).head.lock = .coarse →
      s.fromHead i take = s.modSite i fun x => { x with head := { x.head with trainRun := 0 } }) := by
  rw [State.fromHead_eq]
  refine ⟨fun off => ?_, fun enabled coarse => by simp [enabled, coarse]⟩
  rcases off with h | h <;> simp [h]

theorem fromHead_hearing (hearing : Hearing s i) (take : State → State) : s.fromHead i take = take s := by
  rw [State.fromHead_eq, if_pos hearing.2]

theorem exec_result (hearing : Hearing s i) (f : Option ResultFrame) : exec (.result i f) s = .next (s.resultFrame i f) := by
  simp only [exec, execResult, live_released s hearing.1, fromHead_hearing hearing]

/-- A RESULT frame that fails one of the checks of R85. -/
theorem resultFrame_bad {f : Option ResultFrame}
    (bad : ∀ x : ResultFrame, f = some x → (x.status ≠ 1 ∧ x.status ≠ 2) ∨ 64 < x.entries.length) :
    s.resultFrame i f = s.modSite i fun x => { x with mapper := { x.mapper with crc := oneMore x.mapper.crc } } := by
  cases f with
  | none => rfl
  | some x =>
    rcases bad x rfl with ⟨done, aborted⟩ | long
    · simp only [State.resultFrame, resultDone_none done aborted]
      rfl
    · cases status : resultDone x.status with
      | none => simp only [State.resultFrame, status]; rfl
      | some done => simp only [State.resultFrame, status, if_neg (Nat.not_le.mpr long)]; rfl

/-- A RESULT frame that passes them is taken (R86). -/
theorem resultFrame_good {x : ResultFrame} {done : Bool} (status : resultDone x.status = some done)
    (few : x.entries.length ≤ 64) : s.resultFrame i (some x) = s.takeResult i x.tag done x.entries := by
  simp only [State.resultFrame, status, if_pos few]

theorem matchIndex_none (stray : ∀ q ∈ (s.site i).head.inFlight, q.desc.tag ≠ tag) :
    matchIndex (s.site i).head.inFlight tag = none := by
  rw [matchIndex, List.findIdx?_eq_none_iff]
  exact fun q hq => decide_eq_false (stray q hq)

/-- Settles O44: each frame outside FINE lock, and in it an unknown kind, a bad RESULT and a stray one. -/
theorem headFramesNobodyTakesAreCounted : Obligations.HeadFramesNobodyTakesAreCounted := by
  intro s i f g c released
  refine ⟨fun which => ?_, fun hearing => ⟨?_, fun bad => ?_, ?_⟩⟩
  · rcases which with rfl | rfl | rfl <;>
      simp only [exec, execUnknownHeadFrame, execResult, execTelemetry, live_released s released, Host.Outcome.next.injEq]
    · exact fromHead_outside s i _
    · exact fromHead_outside s i _
    · exact fromHead_outside s i _
  · simp only [exec, execUnknownHeadFrame, live_released s released, fromHead_hearing hearing, State.modHead_eq, sat32_one]
  · rw [exec_result hearing, resultFrame_bad bad]
  · rintro x rfl status few stray
    obtain ⟨done, is⟩ := resultDone_some status
    rw [exec_result hearing, resultFrame_good is few]
    simp only [State.takeResult, matchIndex_none stray, State.modMapper_eq, sat32_one]

/-! ### The match -/

theorem matchIndex_some (list : (s.site i).head.inFlight = older ++ record :: newer) (others : ∀ q ∈ older, q.desc.tag ≠ tag)
    (same : record.desc.tag = tag) : matchIndex (s.site i).head.inFlight tag = some older.length := by
  rw [matchIndex, list, List.findIdx?_append, List.findIdx?_eq_none_iff.mpr fun q hq => decide_eq_false (others q hq),
    List.findIdx?_cons, decide_eq_true same]
  simp

theorem takeResult_match (list : (s.site i).head.inFlight = older ++ record :: newer)
    (others : ∀ q ∈ older, q.desc.tag ≠ tag) (same : record.desc.tag = tag) (done : Bool) (es : List FailEntry) :
    s.takeResult i tag done es = s.takeMatch i older.length record done es := by
  have at_ : (s.site i).head.inFlight[older.length]? = some record := by
    rw [list, List.getElem?_append_right (Nat.le_refl _), Nat.sub_self]
    rfl
  simp only [State.takeResult, matchIndex_some list others same, at_]

/-- A site whose match and older records have left, `whole` when nothing is missing of its map (R37, R43, R88 to R90). -/
def Site.answered (x : Site) (older newer : List InFlight) (whole : Bool) (sent : Option HeadSent) : Site :=
  { x with
    head := { x.head with
      inFlight := newer
      expander := if newer = [] then blockCut x.head.expander else x.head.expander
      sent := if newer = [] then sent else x.head.sent }
    mapper := { x.mapper with
      lost := (x.mapper.lost + older.length) % 2 ^ 48, answered := (x.mapper.answered + 1) % 2 ^ 48 }
    run := { x.run with mapIncomplete := x.run.mapIncomplete || !whole }
    reports := { x.reports with summaryPending := x.reports.summaryPending || (!whole && !x.run.mapIncomplete) } }

/-- The retirement of a match with its older records, MAP_INCOMPLETE with it where records were LOST or the status is ABORTED. -/
theorem retired_eq (list : (s.site i).head.inFlight = older ++ record :: newer) (done : Bool) :
    (if 0 < older.length ∨ done = false then (s.retireRecords i older.length).giveMapIncomplete i
      else s.retireRecords i older.length)
    = (s.dropRefs ((older ++ [record]).map InFlight.bound)).modSite i fun _ =>
      (s.site i).answered older newer (decide (older = []) && done) (lastBlock s i) := by
  have split : (s.site i).head.inFlight = (older ++ [record]) ++ newer := list.trans (List.append_cons _ _ _)
  have leaving : (s.site i).head.inFlight.take (older.length + 1) = older ++ [record] := by
    rw [split, List.take_left' (by simp)]
  have staying : (s.site i).head.inFlight.drop (older.length + 1) = newer := by
    rw [split, List.drop_left' (by simp)]
  have last : (s.site i).head.inFlight.length ≤ older.length + 1 ↔ newer = [] := by
    rw [list, List.length_append, List.length_cons, ← List.length_eq_zero_iff]
    omega
  have site : (s.dropRefs ((older ++ [record]).map InFlight.bound)).site i = s.site i := State.site_dropRefs _ _ _
  rw [State.retireRecords_eq, leaving]
  by_cases missing : 0 < older.length ∨ done = false
  · have whole : (decide (older = []) && done) = false := by
      rcases missing with some | rfl
      · rw [decide_eq_false (List.ne_nil_of_length_pos some)]; rfl
      · exact Bool.and_false _
    rw [if_pos missing, State.giveMapIncomplete_eq, State.modSite_modSite]
    refine State.modSite_congr _ _ ?_
    rw [site, whole]
    simp only [staying, last, Site.answered, wrap48, Bool.not_false, Bool.or_true, Bool.true_and]
  · obtain ⟨none, finished⟩ := not_or.mp missing
    have whole : (decide (older = []) && done) = true := by
      rw [decide_eq_true (List.eq_nil_of_length_eq_zero (Nat.eq_zero_of_not_pos none)), eq_true_of_ne_false finished]
      rfl
    rw [if_neg missing]
    refine State.modSite_congr _ _ ?_
    rw [site, whole]
    simp only [staying, last, Site.answered, wrap48, Bool.not_true, Bool.or_false, Bool.false_and]

/-- Settles O45: the match with no fails to map, DONE or ABORTED, and the end of a drain. -/
theorem aMatchedResultRetiresItsRecords : Obligations.AMatchedResultRetiresItsRecords := by
  rintro s i f older newer record whole x hearing list others same how rfl
  have taken (done : Bool) (status : resultDone f.status = some done) (few : f.entries.length ≤ 64)
      (nothing : done = true → f.entries = []) (is : whole = (decide (older = []) && done)) :
      exec (.result i (some f)) s = .next ((s.dropRefs ((older ++ [record]).map InFlight.bound)).modSite i fun _ =>
        if (s.site i).run.state = .draining ∧ newer = [] then
          retiredSite ((s.site i).answered older newer whole (lastBlock s i))
        else (s.site i).answered older newer whole (lastBlock s i)) := by
    have fails (u : State) : (if done = true then
        u.takeFails i (s.bank record.bound).tables record.desc f.entries else u) = u := by
      split
      · rename_i finished; rw [nothing finished]; rfl
      · rfl
    rw [exec_result hearing, resultFrame_good status few, takeResult_match list others same, State.takeMatch]
    simp only [fails]
    rw [retired_eq list, State.endDrain_eq, State.modSite_modSite, is]
    rfl
  rcases how with ⟨status, empty, is⟩ | ⟨status, few, is⟩
  · exact taken true (by rw [status]; rfl) (by rw [empty]; exact Nat.zero_le _) (fun _ => empty) (by rw [is, Bool.and_true])
  · exact taken false (by rw [status]; rfl) few (fun h => by cases h) (by rw [is, Bool.and_false])

end Sys2Proof.Machine
end

section
/-! TELEMETRY frames: the sample as the Supply Supervisor takes it, the trip, and the alignment loop (R136 to R138, R146, R150 to
R155). -/
namespace Sys2Proof.Machine

open Sys2Proof.Safety

variable {s t : State} {i : SiteIx} {current : Nat}

/-! ### The sample -/

/-- A compared sample trips: above the level, with the deglitch count reached (R154). -/
abbrev Trips (s : State) (i : SiteIx) (current : Nat) : Prop :=
  (s.site i).run.state.inTest = true ∧ (s.site i).supply.blanking = 0 ∧ (s.pairOf i).tripLevel < current
    ∧ (s.pairOf i).deglitch ≤ min ((s.site i).supply.overCount + 1) 16

/-- A sample that trips nothing leaves the supply alone changed (R151 to R154). -/
theorem takeSample_kept (quiet : ¬Trips s i current) : s.takeSample i current = s.modSite i fun x =>
    { x with supply := sampledSupply x current (s.pairOf i).tripLevel } := by
  unfold State.takeSample State.noteCurrent
  cases inTest : (s.site i).run.state.inTest with
  | false =>
    simp only [Bool.false_eq_true, if_false, State.modSupply_eq]
    refine State.modSite_congr s i ?_
    simp only [sampledSupply, inTest, if_true]
  | true =>
    simp only [if_true]
    by_cases blanked : 0 < (s.site i).supply.blanking
    · simp only [blanked, if_true, State.modSupply_eq, State.modSite_modSite]
      refine State.modSite_congr s i ?_
      simp only [sampledSupply, inTest, Bool.true_eq_false, if_false, blanked, if_true]
    · have compared : ¬((s.pairOf i).tripLevel < current
          ∧ (s.pairOf i).deglitch ≤ overAfter (s.site i).supply.overCount current (s.pairOf i).tripLevel) := by
        rintro ⟨above, reached⟩
        rw [overAfter, if_pos above] at reached
        exact quiet ⟨inTest, Nat.eq_zero_of_not_pos blanked, above, reached⟩
      simp only [blanked, if_false, State.compareSample, State.modSupply_eq, State.modSite_modSite, State.site_modSite_same,
        State.pairOf_modSite, compared]
      refine State.modSite_congr s i ?_
      simp only [sampledSupply, inTest, Bool.true_eq_false, if_false, blanked, overAfter]

/-- The supply once a compared sample has been counted above the level. -/
def overSupply (p : SiteSupply) (current : Nat) : SiteSupply :=
  { p with
    latest := some current, peak := some (max (p.peak.getD 0) current), overCount := min (p.overCount + 1) 16 }

/-- A sample that trips raises OVERCURRENT (R154). -/
theorem takeSample_trips (trips : Trips s i current) : s.takeSample i current =
    (s.modSite i fun x => { x with supply := overSupply x.supply current }).raiseCause i .overcurrent := by
  obtain ⟨inTest, unblanked, above, reached⟩ := trips
  have count : overAfter (s.site i).supply.overCount current (s.pairOf i).tripLevel
      = min ((s.site i).supply.overCount + 1) 16 := if_pos above
  unfold State.takeSample State.noteCurrent
  simp only [inTest, unblanked, Nat.lt_irrefl, if_true, if_false, State.compareSample, State.modSupply_eq, State.modSite_modSite,
    State.site_modSite_same, State.pairOf_modSite, count, above, reached, and_self]
  refine congrArg (fun u : State => u.raiseCause i .overcurrent) (State.modSite_congr s i ?_)
  rfl

/-- What a trip makes of the site in ARMED or PRIMED, and in ACTIVE or DRAINING, with the banks that it leaves (R74, R77). -/
theorem takeSample_retires {w : State} {y z : Site} (trips : Trips s i current)
    (is : z = { s.site i with supply := overSupply (s.site i).supply current, run := withCause .overcurrent (s.site i).run })
    (goes : (((s.site i).run.state = .armed ∨ (s.site i).run.state = .primed) ∧ y = retiredSite z ∧ w = s)
      ∨ (((s.site i).run.state = .active ∨ (s.site i).run.state = .draining)
        ∧ y = abandonedSite { z with head := { z.head with sent := lastBlock s i } }
        ∧ w = s.dropRefs (copiesLost (s.site i)))) :
    s.takeSample i current = (w.modSite i fun _ => y).readFlow := by
  rw [takeSample_trips trips, State.raiseCause]
  refine congrArg State.readFlow ?_
  rcases goes with ⟨before, rfl, rfl⟩ | ⟨running, rfl, rfl⟩
  · rw [State.raiseCauseQuiet_before _ _ .overcurrent (by decide) (by rw [State.site_modSite_same]; exact before),
      State.modSite_modSite, is]
    exact State.modSite_congr _ _ rfl
  · have last : lastBlock (s.modSite i fun x => { x with supply := overSupply x.supply current }) i = lastBlock s i := by
      refine lastBlock_congr ?_ ?_ ?_ rfl fun _ => rfl <;> rw [State.site_modSite_same]
    rw [State.raiseCauseQuiet_abandoning _ _ .overcurrent rfl (by rw [State.site_modSite_same]; exact running),
      State.site_modSite_same, State.dropRefs_modSite, State.modSite_modSite, last, is]
    refine State.modSite_congr _ _ ?_
    rw [State.site_dropRefs]

/-! ### The frame -/

theorem exec_telemetry (hearing : Hearing s i) (f : Option TelemetryFrame) :
    exec (.telemetry i f) s = .next (s.telemetryFrame i f) := by
  simp only [exec, execTelemetry, live_released s hearing.1, fromHead_hearing hearing]

theorem telemetryFrame_bad {f : Option TelemetryFrame} (bad : ∀ x : TelemetryFrame, f = some x → 1 < x.present.toNat) :
    s.telemetryFrame i f = s.modSite i fun x =>
      { x with head := { x.head with telemetryCheck := oneMore x.head.telemetryCheck } } := by
  cases f with
  | none => rfl
  | some x =>
    have zero : x.present ≠ 0 := fun h => absurd (bad x rfl) (by rw [h]; decide)
    have one : x.present ≠ 1 := fun h => absurd (bad x rfl) (by rw [h]; decide)
    have none : phaseErrorOf x = none := by rw [phaseErrorOf, if_neg zero, if_neg one]
    simp only [State.telemetryFrame, Option.bind_some, none, Option.map_none]
    rfl

theorem telemetryFrame_plain {x : TelemetryFrame} (plain : x.present = 0) :
    s.telemetryFrame i (some x) = s.takeSample i (x.current.toNat % 4096) := by
  have none : phaseErrorOf x = some none := by rw [phaseErrorOf, if_pos plain]
  simp only [State.telemetryFrame, Option.bind_some, none, Option.map_some, State.sampleTaken]

theorem telemetryFrame_phase {x : TelemetryFrame} (phase : x.present = 1) : s.telemetryFrame i (some x) =
    (s.takeSample i (x.current.toNat % 4096)).sampleTaken i (some x.phase.toInt) (s.site i).run.state := by
  have some_ : phaseErrorOf x = some (some x.phase.toInt) := by
    rw [phaseErrorOf, if_neg (by rw [phase]; decide), if_pos phase]
  simp only [State.telemetryFrame, Option.bind_some, some_, Option.map_some]

/-! ### The loop -/

/-- A loop update by its bounds (R137, R138). -/
theorem loopStep_cases (gain : Nat) (mode : ErrorMode) (e : Int) (offset : Nat) (residual a moved : Int)
    (isA : a = residual + (if mode = .oneStep then e.sign else e) * gain) (isMoved : moved = offset - a.tdiv 4) :
    (0 ≤ moved ∧ moved ≤ 4095 ∧ ((loopStep gain mode e offset residual).1 : Int) = moved
        ∧ (loopStep gain mode e offset residual).2.1 = a.tmod 4 ∧ (loopStep gain mode e offset residual).2.2 = false)
    ∨ ((moved < 0 ∨ 4095 < moved) ∧ (loopStep gain mode e offset residual).1 = (if moved < 0 then 0 else 4095)
        ∧ (loopStep gain mode e offset residual).2.1 = 0 ∧ (loopStep gain mode e offset residual).2.2 = true) := by
  have input : stepInput mode e = if mode = .oneStep then e.sign else e := by cases mode <;> rfl
  have is : loopStep gain mode e offset residual = if moved < 0 then (0, 0, true)
      else if 4095 < moved then (4095, 0, true) else (moved.toNat, a - 4 * a.tdiv 4, false) := by
    rw [loopStep, input, isMoved, isA]
  rw [is]
  by_cases below : moved < 0
  · rw [if_pos below, if_pos below]
    exact Or.inr ⟨Or.inl below, rfl, rfl, rfl⟩
  · by_cases above : 4095 < moved
    · rw [if_neg below, if_neg below, if_pos above]
      exact Or.inr ⟨Or.inr above, rfl, rfl, rfl⟩
    · rw [if_neg below, if_neg above]
      refine Or.inl ⟨Int.not_lt.mp below, Int.not_lt.mp above, Int.toNat_of_nonneg (Int.not_lt.mp below), ?_, rfl⟩
      exact (Int.tmod_def a 4).symm

/-- A loop update of a site that is flagged already. -/
theorem loopUpdate_flagged (flagged : (s.site i).reports.summaryPending = true) (e : Int) :
    s.loopUpdate i e = s.modSite i fun x => x.withLoop e := by
  rw [State.loopUpdate_eq]
  refine State.modSite_congr s i ?_
  rw [flagged, Bool.true_or, ← flagged]
  rfl

/-- The phase error of a sample that has retired the site: the Mark Unit took it before, or did not (log entry 6). -/
theorem sampleTaken_retired {y : Site} {before : SiteState} (site : t.site i = y) (retired : y.run.state = .retired)
    (was : before ≠ .retired) (flagged : y.reports.summaryPending = true) (e : Int) :
    ∃ (free : Nat) (x : Site), t.sampleTaken i (some e) before = { t.modSite i fun _ => x with freeIndex := free }
      ∧ (x = y ∨ (before.marked = true ∧ y.config.gain ≠ 0 ∧ x = y.withLoop e)) := by
  subst site
  have left : ¬(t.site i).run.state = before := fun same => was (same.symm.trans retired)
  have stays : t.modSite i (fun _ => t.site i) = t := State.modSite_of_id t i rfl
  simp only [State.sampleTaken, left, false_or]
  by_cases served : before.marked = false
  · refine ⟨t.freeIndex, t.site i, ?_, Or.inl rfl⟩
    rw [if_pos served, State.takePhase, if_neg (by simp [served]), stays]
  · rw [if_neg served, State.takePhase]
    generalize hst : (if Config.markUnitFirst t.freeIndex = true then before else (t.site i).run.state) = stood
    by_cases runs : stood.marked = true ∧ (t.site i).config.gain ≠ 0
    · refine ⟨t.freeIndex + 1, (t.site i).withLoop e, ?_, Or.inr ⟨eq_true_of_ne_false served, runs.2, rfl⟩⟩
      rw [if_pos (by exact runs), loopUpdate_flagged (by exact flagged)]
      exact State.modSite_congr ({ t with freeIndex := t.freeIndex + 1 } : State) i rfl
    · refine ⟨t.freeIndex + 1, t.site i, ?_, Or.inl rfl⟩
      rw [if_neg (by exact runs), stays]

/-- Settles O47: the frame that fails its check, the samples outside and in test, and the trip with and without a phase error. -/
theorem telemetrySamplesAreSupervised : Obligations.TelemetrySamplesAreSupervised := by
  intro s i f hearing
  rw [exec_telemetry hearing]
  refine ⟨fun bad => by rw [telemetryFrame_bad bad], ?_⟩
  rintro x current count noted z rfl rfl rfl rfl rfl
  generalize is : x.current.toNat % 4096 = current
  have kept (plain : x.present = 0) (quiet : ¬Trips s i current) : s.telemetryFrame i (some x) = s.modSite i fun y =>
      { y with supply := sampledSupply y current (s.pairOf i).tripLevel } := by
    rw [telemetryFrame_plain plain, is, takeSample_kept quiet]
  refine ⟨fun plain outside => ?_, fun plain inTest blanked => ?_, fun plain inTest unblanked low => ?_,
    fun plain inTest unblanked above => ⟨fun few => ?_, fun reached before => ?_, fun reached running => ?_⟩,
    fun w y phase unblanked above reached goes => ?_⟩
  · rw [kept plain fun trips => by rw [trips.1] at outside; cases outside]
    refine congrArg Host.Outcome.next (State.modSite_congr s i ?_)
    simp only [sampledSupply, outside, if_true]
  · rw [kept plain fun trips => absurd trips.2.1 (Nat.pos_iff_ne_zero.mp blanked)]
    refine congrArg Host.Outcome.next (State.modSite_congr s i ?_)
    simp only [sampledSupply, inTest, Bool.true_eq_false, if_false, blanked, if_true]
  · rw [kept plain fun trips => absurd trips.2.2.1 (Nat.not_lt.mpr low)]
    refine congrArg Host.Outcome.next (State.modSite_congr s i ?_)
    simp only [sampledSupply, inTest, Bool.true_eq_false, if_false, unblanked, Nat.lt_irrefl, Nat.not_lt.mpr low]
  · rw [kept plain fun trips => absurd trips.2.2.2 (Nat.not_le.mpr few)]
    refine congrArg Host.Outcome.next (State.modSite_congr s i ?_)
    simp only [sampledSupply, inTest, Bool.true_eq_false, if_false, unblanked, Nat.lt_irrefl, above, if_true]
  · rw [telemetryFrame_plain plain, is,
      takeSample_retires (w := s) ⟨inTest, unblanked, above, reached⟩ rfl (Or.inl ⟨before, rfl, rfl⟩)]
    rfl
  · rw [telemetryFrame_plain plain, is,
      takeSample_retires ⟨inTest, unblanked, above, reached⟩ rfl (Or.inr ⟨running, rfl, rfl⟩)]
    rfl
  · have trips : Trips s i current := by
      refine ⟨?_, unblanked, above, reached⟩
      rcases goes with ⟨h | h, -⟩ | ⟨h | h, -⟩ <;> rw [h] <;> rfl
    have retired : y.run.state = .retired ∧ y.reports.summaryPending = true := by
      rcases goes with ⟨-, rfl, -⟩ | ⟨-, rfl, -⟩ <;> exact ⟨rfl, rfl⟩
    have was : (s.site i).run.state ≠ .retired := by
      rcases goes with ⟨h | h, -⟩ | ⟨h | h, -⟩ <;> rw [h] <;> decide
    have config : y.config = (s.site i).config := by
      rcases goes with ⟨-, rfl, -⟩ | ⟨-, rfl, -⟩ <;> rfl
    rw [telemetryFrame_phase phase, is, takeSample_retires trips rfl goes]
    obtain ⟨free, x', taken, which⟩ := sampleTaken_retired (t := (w.modSite i fun _ => y).readFlow) (i := i) (y := y)
      (before := (s.site i).run.state) (by rw [State.site_readFlow, State.site_modSite_same]) retired.1 was retired.2 x.phase.toInt
    refine ⟨free, x'.marks.offset, x'.marks.residual, _, _, x'.run.offsetSaturated, rfl, rfl, ?_, fun quiet => ?_, ?_⟩
    · have same : x' = { y with
          marks := { y.marks with offset := x'.marks.offset, residual := x'.marks.residual }
          run := { y.run with offsetSaturated := x'.run.offsetSaturated } } := by
        rcases which with rfl | ⟨-, -, rfl⟩ <;> rfl
      have keeps : x'.run.state = y.run.state ∧ x'.head.launchQueue = y.head.launchQueue := by
        rcases which with rfl | ⟨-, -, rfl⟩ <;> exact ⟨rfl, rfl⟩
      rw [taken, readFlow_modSite (by rw [State.site_modSite_same]; exact keeps.1)
        (by rw [State.site_modSite_same]; exact keeps.2), State.modSite_modSite, ← same]
    · rcases which with rfl | ⟨marked, gain, -⟩
      · exact ⟨rfl, rfl, rfl⟩
      · rcases quiet with armed | zero
        · rw [armed] at marked; cases marked
        · rw [config] at gain; exact absurd zero gain
    · rcases which with rfl | ⟨-, -, rfl⟩
      · exact Or.inl ⟨rfl, rfl, rfl⟩
      · exact Or.inr (loopStep_cases y.config.gain y.config.errorMode x.phase.toInt y.marks.offset y.marks.residual _ _ rfl rfl)

/-! ### The loop after a sample that trips nothing -/

/-- A site with its sample taken and nothing tripped. -/
def Site.sampled (x : Site) (current level : Nat) : Site := { x with supply := sampledSupply x current level }

/-- A site with one update of the loop, flagged where it saturates newly (R137, R138). -/
def Site.looped (x : Site) (e : Int) : Site :=
  { x.withLoop e with reports := { x.reports with
    summaryPending := x.reports.summaryPending
      || ((loopStep x.config.gain x.config.errorMode e x.marks.offset x.marks.residual).2.2 && !x.run.offsetSaturated) } }

theorem reports_looped_clear {x : Site} {e : Int} (clear : (x.looped e).run.offsetSaturated = false) :
    (x.looped e).reports = x.reports := by
  have is : (x.looped e).reports = { x.reports with
    summaryPending := x.reports.summaryPending || ((x.looped e).run.offsetSaturated && !x.run.offsetSaturated) } := rfl
  rw [is, clear, Bool.false_and, Bool.or_false]

theorem reports_looped_saturated {x : Site} {e : Int} (saturated : (x.looped e).run.offsetSaturated = true) :
    (x.looped e).reports.summaryPending = (x.reports.summaryPending || !x.run.offsetSaturated) := by
  have is : (x.looped e).reports.summaryPending
    = (x.reports.summaryPending || ((x.looped e).run.offsetSaturated && !x.run.offsetSaturated)) := rfl
  rw [is, saturated, Bool.true_and]

/-- Settles O48: the sample taken, and the loop by its bounds. -/
theorem theAlignmentLoopMovesTheOffset : Obligations.TheAlignmentLoopMovesTheOffset := by
  intro s i f a moved hearing phase nothing isA isMoved
  have quiet : ¬Trips s i (f.current.toNat % 4096) := by
    rintro ⟨inTest, unblanked, above, reached⟩
    rcases nothing with h | h | h | h
    · rw [h] at inTest; cases inTest
    · omega
    · omega
    · omega
  have sampled : s.takeSample i (f.current.toNat % 4096) = s.modSite i fun x =>
      x.sampled (f.current.toNat % 4096) (s.pairOf i).tripLevel := takeSample_kept quiet
  have taken : s.telemetryFrame i (some f) = if (s.site i).run.state.marked = true ∧ (s.site i).config.gain ≠ 0 then
        s.modSite i fun x => (x.sampled (f.current.toNat % 4096) (s.pairOf i).tripLevel).looped f.phase.toInt
      else s.modSite i fun x => x.sampled (f.current.toNat % 4096) (s.pairOf i).tripLevel := by
    have here : (s.modSite i fun x => x.sampled (f.current.toNat % 4096) (s.pairOf i).tripLevel).site i
        = (s.site i).sampled (f.current.toNat % 4096) (s.pairOf i).tripLevel := State.site_modSite_same _ _ _
    have went : (s.modSite i fun x => x.sampled (f.current.toNat % 4096) (s.pairOf i).tripLevel).sampleTaken i
          (some f.phase.toInt) (s.site i).run.state
        = (s.modSite i fun x => x.sampled (f.current.toNat % 4096) (s.pairOf i).tripLevel).takePhase i
          (s.site i).run.state f.phase.toInt := by
      simp only [State.sampleTaken, here]
      exact if_pos (Or.inl rfl)
    rw [telemetryFrame_phase phase, sampled, went, State.takePhase, here, State.loopUpdate_eq, State.modSite_modSite]
    rfl
  have steps := loopStep_cases (s.site i).config.gain (s.site i).config.errorMode f.phase.toInt (s.site i).marks.offset
    (s.site i).marks.residual a moved isA isMoved
  rw [exec_telemetry hearing, taken]
  refine ⟨_, rfl, ?_, fun j other => ?_, ?_⟩
  · split <;> rfl
  · split <;> exact State.site_modSite_ne s other _
  by_cases runs : (s.site i).run.state.marked = true ∧ (s.site i).config.gain ≠ 0
  · rw [if_pos runs, State.site_modSite_same]
    refine ⟨rfl, rfl, fun still => ?_, fun _ _ lower upper => ?_, fun _ _ beyond => ?_⟩
    · rcases still with unmarked | zero
      · rw [unmarked] at runs; cases runs.1
      · exact absurd zero runs.2
    · rcases steps with ⟨-, -, offset, residual, clear⟩ | ⟨beyond, -⟩
      · exact ⟨offset, residual, clear, reports_looped_clear clear⟩
      · omega
    · rcases steps with ⟨lower, upper, -⟩ | ⟨-, offset, residual, saturated⟩
      · omega
      · exact ⟨offset, residual, saturated, reports_looped_saturated saturated⟩
  · rw [if_neg runs, State.site_modSite_same]
    exact ⟨rfl, rfl, fun _ => ⟨rfl, rfl, rfl⟩, fun marked gain => absurd ⟨marked, gain⟩ runs,
      fun marked gain => absurd ⟨marked, gain⟩ runs⟩

end Sys2Proof.Machine
end

section
/-! The fail list of a DONE result, taken apart into its operations: malformed entries, failing vectors, candidates and cell events
(R95 to R101). What the list leaves is found for each of them by itself. -/
namespace Sys2Proof.Machine

open Sys2Proof.Safety

variable {t : Tables} {d : Descriptor} {i : SiteIx}

/-! ### The operations of a fail list -/

/-- What a fail list does, one thing at a time. -/
inductive FailOp
  | malformed
  | vector (bits : Nat)
  | candidate (r : FailRecord)
  | cell (g : RegionIx) (row col : Nat)

/-- One operation on the hub. -/
def FailOp.take (i : SiteIx) (s : State) : FailOp → State
  | .malformed => s.modMapper i fun m => { m with malformed := sat32 m.malformed 1 }
  | .vector bits => s.countFails i bits
  | .candidate r => s.offerFail i r
  | .cell g row col => s.cellEvent i g row col

/-- The candidate of a kept entry (R101). -/
def candidateOf (i : SiteIx) (t : Tables) (d : Descriptor) (e : FailEntry) : FailRecord :=
  ⟨i, d.tag, vectorIndex e, physRow t d (vectorIndex e), physCol t d (vectorIndex e), effectiveMask t e.mask, false⟩

/-- A candidate's cell events, one for each pin of its mask (R100). -/
def cellOps (g : Geometry) (r : FailRecord) : List FailOp :=
  (pinsOf g.w r.mask).map fun k => .cell (regionOf g r.prow) (regionRow g r.prow) (cellCol g r.pcol k)

/-- The operations of a candidate (R98 to R101). -/
def candidateOps (g : Geometry) (r : FailRecord) : List FailOp :=
  .vector (popcount g.w r.mask) :: .candidate r :: cellOps g r

/-- The operations of a fail list, `last` being the vector index of the entry kept before (R95). -/
def failOps (i : SiteIx) (t : Tables) (d : Descriptor) : Option Nat → List FailEntry → List FailOp
  | _, [] => []
  | last, e :: es =>
    if malformedEntry t d last e then .malformed :: failOps i t d last es
    else (if effectiveMask t e.mask = 0 then [] else candidateOps t.geometry (candidateOf i t d e))
      ++ failOps i t d (some (vectorIndex e)) es

theorem mapEntry_ops (s : State) (e : FailEntry) : s.mapEntry i t d (vectorIndex e) e.mask =
    (if effectiveMask t e.mask = 0 then [] else candidateOps t.geometry (candidateOf i t d e)).foldl (FailOp.take i) s := by
  unfold State.mapEntry
  by_cases none : effectiveMask t e.mask = 0
  · simp only [none, if_true, List.foldl_nil]
  · simp only [none, if_false, candidateOps, cellOps, List.foldl_cons, List.foldl_map]
    rfl

theorem takeFails_ops (s : State) (es : List FailEntry) :
    s.takeFails i t d es = (failOps i t d none es).foldl (FailOp.take i) s := by
  unfold State.takeFails
  generalize (none : Option Nat) = last
  induction es generalizing s last with
  | nil => rfl
  | cons e es ih =>
    rw [List.foldl_cons, failOps, State.takeEntry]
    by_cases bad : malformedEntry t d last e = true
    · simp only [if_pos bad, ih, List.foldl_cons]
      rfl
    · simp only [if_neg bad, ih, List.foldl_append, mapEntry_ops]

/-! ### The entries kept, and their candidates -/

/-- The mask left after the compare mask, pin by pin (R97). -/
theorem effectiveMask_eq (t : Tables) (mask : Half) : effectiveMask t mask = maskLeft t mask := by
  refine Nat.eq_of_testBit_eq fun k => ?_
  have small : t.ck.toNat % 2 ^ t.geometry.w < 2 ^ t.geometry.w := Nat.mod_lt _ (Nat.two_pow_pos _)
  have rest : 2 ^ t.geometry.w - 1 - t.ck.toNat % 2 ^ t.geometry.w
      = 2 ^ t.geometry.w - (t.ck.toNat % 2 ^ t.geometry.w + 1) := by omega
  rw [effectiveMask, maskLeft, rest, Nat.testBit_and, Nat.testBit_two_pow_sub_succ small]
  simp only [Nat.testBit_mod_two_pow, BitVec.testBit_toNat, BitVec.getLsbD_and, BitVec.getLsbD_not]
  by_cases pin : k < t.geometry.w
  · by_cases inside : k < 16
    · simp [pin, inside]
    · simp [pin, inside, BitVec.getLsbD_of_ge mask k (by omega)]
  · simp [pin]

theorem keptEntries_cons (last : Option Nat) (e : FailEntry) (es : List FailEntry) :
    keptEntries t d last (e :: es) = if malformedEntry t d last e then keptEntries t d last es
      else e :: keptEntries t d (some (vectorIndex e)) es := by
  have same : (d.op = .readCompare ∧ e.v.toNat % 64 < d.n ∧ e.mask.toNat % 2 ^ t.geometry.w ≠ 0
      ∧ last.all (fun l => decide (l < e.v.toNat % 64)) = true) ↔ ¬malformedEntry t d last e = true := by
    have later : last.all (fun l => decide (l < e.v.toNat % 64)) = !last.any fun l => decide (vectorIndex e ≤ l) := by
      cases last with
      | none => rfl
      | some l =>
        show decide (vectorIndex e > l) = !decide (vectorIndex e ≤ l)
        rw [← decide_not]
        exact decide_eq_decide.mpr Nat.not_le.symm
    rw [malformedEntry, later]
    simp only [Bool.or_eq_true, decide_eq_true_eq, not_or]
    simp only [Bool.not_eq_true', Bool.not_eq_true, ne_eq, Classical.not_not, Nat.not_le, and_assoc, vectorIndex]
  rw [keptEntries]
  by_cases bad : malformedEntry t d last e = true
  · rw [if_neg fun h => same.mp h bad, if_pos bad]
  · rw [if_pos (same.mpr bad), if_neg bad]
    rfl

theorem length_keptEntries (last : Option Nat) (es : List FailEntry) : (keptEntries t d last es).length ≤ es.length := by
  induction es generalizing last with
  | nil => exact Nat.le_refl 0
  | cons e es ih =>
    rw [keptEntries_cons, List.length_cons]
    split
    · exact Nat.le_succ_of_le (ih last)
    · exact Nat.succ_le_succ (ih _)

/-- The candidates of a fail list from some entry on. -/
def candidatesFrom (i : SiteIx) (t : Tables) (d : Descriptor) (last : Option Nat) (es : List FailEntry) : List FailRecord :=
  ((keptEntries t d last es).filter fun e => effectiveMask t e.mask ≠ 0).map (candidateOf i t d)

theorem failCandidates_eq (es : List FailEntry) : failCandidates i t d es = candidatesFrom i t d none es := by
  unfold failCandidates candidatesFrom candidateOf
  simp only [effectiveMask_eq]
  rfl

theorem candidatesFrom_cons (last : Option Nat) (e : FailEntry) (es : List FailEntry) :
    candidatesFrom i t d last (e :: es) = if malformedEntry t d last e then candidatesFrom i t d last es
      else (if effectiveMask t e.mask = 0 then [] else [candidateOf i t d e])
        ++ candidatesFrom i t d (some (vectorIndex e)) es := by
  unfold candidatesFrom
  rw [keptEntries_cons]
  by_cases bad : malformedEntry t d last e = true
  · rw [if_pos bad, if_pos bad]
  · rw [if_neg bad, if_neg bad]
    by_cases none : effectiveMask t e.mask = 0 <;> simp [none]

/-! ### The operations of each kind -/

/-- The candidate that an operation offers. -/
def FailOp.record? : FailOp → Option FailRecord
  | .candidate r => some r
  | _ => none

/-- The cell event of an operation. -/
def FailOp.event? : FailOp → Option (Nat × Nat × Nat)
  | .cell g row col => some (g.val, row, col)
  | _ => none

theorem records_cellOps (g : Geometry) (r : FailRecord) : (cellOps g r).filterMap FailOp.record? = [] := by
  rw [cellOps, List.filterMap_map, List.filterMap_eq_nil_iff]
  exact fun k _ => rfl

theorem physRow_lt (t : Tables) (d : Descriptor) (v : Nat) : physRow t d v < 2 ^ t.geometry.rb := by
  rw [physRow, Nat.div_lt_iff_lt_mul (Nat.two_pow_pos _), ← Nat.pow_add]
  exact ofBits_lt _ _

/-- The row of a vector lies in one of sixteen regions (R100). -/
theorem region_physRow (t : Tables) (d : Descriptor) (v : Nat) :
    (regionOf t.geometry (physRow t d v)).val = physRow t d v / 2 ^ (t.geometry.rb - 4) := by
  refine Nat.mod_eq_of_lt ((Nat.div_lt_iff_lt_mul (Nat.two_pow_pos _)).mpr ?_)
  refine Nat.lt_of_lt_of_le (physRow_lt t d v) ?_
  rw [show (16 : Nat) = 2 ^ 4 from rfl, ← Nat.pow_add]
  exact Nat.pow_le_pow_right (by decide) (by omega)

theorem events_cellOps (e : FailEntry) : (cellOps t.geometry (candidateOf i t d e)).filterMap FailOp.event?
    = candidateEvents t.geometry (candidateOf i t d e) := by
  rw [cellOps, List.filterMap_map, candidateEvents, ← List.filterMap_eq_map]
  refine congrArg (fun f => List.filterMap f _) (funext fun k => ?_)
  simp only [Function.comp_apply, FailOp.event?, candidateOf, region_physRow]
  rfl

theorem records_failOps (last : Option Nat) (es : List FailEntry) :
    (failOps i t d last es).filterMap FailOp.record? = candidatesFrom i t d last es := by
  induction es generalizing last with
  | nil => rfl
  | cons e es ih =>
    rw [failOps, candidatesFrom_cons]
    by_cases bad : malformedEntry t d last e = true
    · rw [if_pos bad, if_pos bad, ← ih]
      rfl
    · rw [if_neg bad, if_neg bad, List.filterMap_append, ih]
      congr 1
      by_cases none : effectiveMask t e.mask = 0
      · rw [if_pos none, if_pos none]
        rfl
      · rw [if_neg none, if_neg none, candidateOps]
        simp only [List.filterMap_cons, FailOp.record?]
        rw [records_cellOps]

theorem events_failOps (last : Option Nat) (es : List FailEntry) : (failOps i t d last es).filterMap FailOp.event?
    = (candidatesFrom i t d last es).flatMap (candidateEvents t.geometry) := by
  induction es generalizing last with
  | nil => rfl
  | cons e es ih =>
    rw [failOps, candidatesFrom_cons]
    by_cases bad : malformedEntry t d last e = true
    · rw [if_pos bad, if_pos bad, ← ih]
      rfl
    · rw [if_neg bad, if_neg bad, List.filterMap_append, ih, List.flatMap_append]
      congr 1
      by_cases none : effectiveMask t e.mask = 0
      · rw [if_pos none, if_pos none]
        rfl
      · rw [if_neg none, if_neg none, candidateOps]
        simp only [List.filterMap_cons, FailOp.event?, events_cellOps, List.flatMap_cons, List.flatMap_nil, List.append_nil]

/-! ### The counts of a fail list -/

/-- One operation on the Fail Mapper's counters (R95, R98). -/
def FailOp.count (m : FailCounters) : FailOp → FailCounters
  | .malformed => { m with malformed := sat32 m.malformed 1 }
  | .vector bits => { m with failingVectors := sat32 m.failingVectors 1, failingBits := sat32 m.failingBits bits }
  | .candidate _ => m
  | .cell _ _ _ => m

theorem count_cellOps (g : Geometry) (r : FailRecord) (m : FailCounters) : (cellOps g r).foldl FailOp.count m = m := by
  rw [cellOps, List.foldl_map]
  generalize pinsOf g.w r.mask = ks
  induction ks with
  | nil => rfl
  | cons k ks ih => exact ih

theorem raisedBy_zero (n : Nat) : raisedBy n 0 = n := if_pos rfl

/-- A count raised at once and then again. -/
theorem raisedBy_sat32 (n k : Nat) {a : Nat} (some : 0 < a) : raisedBy (sat32 n a) k = raisedBy n (a + k) := by
  unfold raisedBy sat32
  split <;> split <;> omega

theorem popcount_pos {w m : Nat} (some : m ≠ 0) (small : m < 2 ^ w) : 0 < popcount w m := by
  obtain ⟨k, bit⟩ := Nat.exists_testBit_of_ne_zero some
  have inside : k < w := by
    refine Classical.byContradiction fun out => ?_
    rw [Nat.testBit_lt_two_pow (Nat.lt_of_lt_of_le small (Nat.pow_le_pow_right (by decide) (Nat.le_of_not_lt out)))] at bit
    cases bit
  exact List.length_pos_of_mem (List.mem_filter.mpr ⟨List.mem_range.mpr inside, bit⟩)

theorem count_failOps (last : Option Nat) (es : List FailEntry) (m : FailCounters) :
    (failOps i t d last es).foldl FailOp.count m = { m with
      malformed := raisedBy m.malformed (es.length - (keptEntries t d last es).length)
      failingVectors := raisedBy m.failingVectors (candidatesFrom i t d last es).length
      failingBits := raisedBy m.failingBits
        ((candidatesFrom i t d last es).flatMap (candidateEvents t.geometry)).length } := by
  induction es generalizing last m with
  | nil => rfl
  | cons e es ih =>
    have most := length_keptEntries (t := t) (d := d) last es
    rw [failOps, candidatesFrom_cons, keptEntries_cons]
    by_cases bad : malformedEntry t d last e = true
    · simp only [if_pos bad, List.foldl_cons, FailOp.count, ih, raisedBy_sat32 _ _ Nat.one_pos, List.length_cons]
      rw [show es.length + 1 - (keptEntries t d last es).length = 1 + (es.length - (keptEntries t d last es).length) by omega]
    · simp only [if_neg bad, List.foldl_append, List.length_cons, Nat.add_sub_add_right, ih]
      by_cases none : effectiveMask t e.mask = 0
      · simp only [if_pos none, List.foldl_nil, List.nil_append]
      · have some : 0 < popcount t.geometry.w (candidateOf i t d e).mask := popcount_pos none (Nat.mod_lt _ (Nat.two_pow_pos _))
        have bits : (candidateEvents t.geometry (candidateOf i t d e)).length
            = popcount t.geometry.w (candidateOf i t d e).mask := List.length_map _
        simp only [if_neg none, candidateOps, List.foldl_cons, FailOp.count, count_cellOps, raisedBy_sat32 _ _ Nat.one_pos,
          raisedBy_sat32 _ _ some, List.cons_append, List.nil_append, List.flatMap_cons, List.length_append, List.length_cons,
          bits, Nat.add_comm 1]

end Sys2Proof.Machine
end

section
/-! What a fail list does to its site: the fail-record path, the regions, and the verdict with the cause that it raises (R75, R78,
R100, R108, R119, R160, R161). -/
namespace Sys2Proof.Machine

open Sys2Proof.Safety

variable {s u : State} {i : SiteIx} {x y : Site} {g : RegionIx} {row col : Nat}

/-! ### The fail-record path -/

/-- What the fail-record path of a site goes by: the Report Queue, the option, and its own counts and flags (R160, R161). -/
structure FailPath where
  queue : List QueuedRecord
  mode : FailMode
  limit : Nat
  admitted : Nat
  dropped : Nat
  gapPending : Bool
  failGap : Bool

/-- The candidates that the mode lets through (R160). -/
def FailPath.wanted (p : FailPath) (rs : List FailRecord) : List FailRecord :=
  match p.mode with
  | .off => []
  | .first => rs.take (p.limit - p.admitted)
  | .all => rs

/-- The mode lets the next candidate through (R160). -/
def FailPath.wants (p : FailPath) : Bool :=
  match p.mode with
  | .off => false
  | .first => decide (p.admitted < p.limit)
  | .all => true

/-- A candidate joins the queue, with the gap flag held for it (R161). -/
def FailPath.joined (now : Nat) (p : FailPath) (r : FailRecord) : FailPath :=
  { p with
    queue := p.queue ++ [⟨.fail { r with gap := p.gapPending }, now⟩], admitted := sat32 p.admitted 1, gapPending := false }

/-- A candidate is dropped (R161). -/
def FailPath.lost (p : FailPath) : FailPath := { p with dropped := sat32 p.dropped 1, gapPending := true, failGap := true }

/-- One candidate offered (R160, R161). -/
def FailPath.offer (now : Nat) (p : FailPath) (r : FailRecord) : FailPath :=
  if p.wants then if p.queue.length < 192 then p.joined now r else p.lost else p

/-- Records as they join the queue, the first with the gap flag that was held for it (R161). -/
def gapMarked (now : Nat) (gap : Bool) (rs : List FailRecord) : List QueuedRecord :=
  rs.zipIdx.map fun r => ⟨.fail { r.1 with gap := decide (r.2 = 0) && gap }, now⟩

theorem gapMarked_cons (now : Nat) (gap : Bool) (r : FailRecord) (rs : List FailRecord) :
    gapMarked now gap (r :: rs) = ⟨.fail { r with gap := gap }, now⟩ :: gapMarked now false rs := by
  simp [gapMarked, List.zipIdx_succ]

/-- All candidates offered at once. -/
def FailPath.offered (now : Nat) (p : FailPath) (rs : List FailRecord) : FailPath :=
  let room := 192 - p.queue.length
  { p with
    queue := p.queue ++ gapMarked now p.gapPending ((p.wanted rs).take room)
    admitted := raisedBy p.admitted ((p.wanted rs).take room).length
    dropped := raisedBy p.dropped (if (p.wanted rs).length ≤ room then 0 else rs.length - room)
    gapPending := if (p.wanted rs).length ≤ room then p.gapPending && decide (p.wanted rs = []) else true
    failGap := p.failGap || decide (room < (p.wanted rs).length) }

theorem wanted_nil (p : FailPath) : p.wanted [] = [] := by
  unfold FailPath.wanted
  cases p.mode with
  | off => rfl
  | first => exact List.take_nil
  | all => rfl

theorem offered_unwanted {p : FailPath} {rs : List FailRecord} (none : p.wanted rs = []) (now : Nat) : p.offered now rs = p := by
  simp only [FailPath.offered, none, List.take_nil, List.length_nil, raisedBy_zero, Nat.zero_le, if_true, decide_true, Bool.and_true,
    Nat.not_lt_zero, decide_false, Bool.or_false]
  rw [show gapMarked now p.gapPending [] = [] from rfl, List.append_nil]

theorem wanted_unwanted {p : FailPath} (closed : p.wants = false) (rs : List FailRecord) : p.wanted rs = [] := by
  unfold FailPath.wants at closed
  unfold FailPath.wanted
  cases mode : p.mode with
  | off => rfl
  | first =>
    rw [mode] at closed
    have reached : p.limit - p.admitted = 0 := Nat.sub_eq_zero_of_le (Nat.not_lt.mp (of_decide_eq_false closed))
    simp only [reached, List.take_zero]
  | all => rw [mode] at closed; cases closed

/-- The first candidate goes through, and the rest as the mode then stands. -/
theorem wanted_cons {p : FailPath} (wants : p.wants = true) (limit : p.limit ≤ 65535) (now : Nat) (r : FailRecord)
    (rs : List FailRecord) : p.wanted (r :: rs) = r :: (p.joined now r).wanted rs := by
  unfold FailPath.wants at wants
  unfold FailPath.wanted FailPath.joined
  cases mode : p.mode with
  | off => rw [mode] at wants; cases wants
  | first =>
    rw [mode] at wants
    have below : p.admitted < p.limit := of_decide_eq_true wants
    have one : p.limit - p.admitted = (p.limit - sat32 p.admitted 1) + 1 := by unfold sat32; omega
    simp only [one, List.take_succ_cons]
  | all => rfl

theorem wanted_eq_nil {p : FailPath} (wants : p.wants = true) (rs : List FailRecord) : p.wanted rs = [] ↔ rs = [] := by
  unfold FailPath.wants at wants
  unfold FailPath.wanted
  cases mode : p.mode with
  | off => rw [mode] at wants; cases wants
  | first =>
    rw [mode] at wants
    have below : p.admitted < p.limit := of_decide_eq_true wants
    simp only [List.take_eq_nil_iff, Nat.sub_ne_zero_of_lt below, false_or]
  | all => exact Iff.rfl

/-- One candidate joins, and the others after it. -/
theorem offered_joined {p : FailPath} (wants : p.wants = true) (limit : p.limit ≤ 65535) (room : p.queue.length < 192) (now : Nat)
    (r : FailRecord) (rs : List FailRecord) : (p.joined now r).offered now rs = p.offered now (r :: rs) := by
  obtain ⟨k, left⟩ : ∃ k, 192 - p.queue.length = k + 1 := ⟨191 - p.queue.length, by omega⟩
  have fewer : 192 - (p.joined now r).queue.length = k := by
    rw [FailPath.joined, List.length_append, List.length_singleton]
    omega
  unfold FailPath.offered
  rw [wanted_cons wants limit now r rs, left, fewer]
  generalize (p.joined now r).wanted rs = ws
  simp only [List.take_succ_cons, List.length_cons, gapMarked_cons, Nat.add_le_add_iff_right, Nat.add_lt_add_iff_right,
    Nat.add_sub_add_right, FailPath.joined, raisedBy_sat32 _ _ Nat.one_pos, List.append_assoc, List.singleton_append,
    Bool.false_and, reduceCtorEq, decide_false, Bool.and_false, Nat.add_comm 1]

/-- One candidate is dropped, and with it all the others. -/
theorem offered_lost {p : FailPath} (wants : p.wants = true) (full : ¬p.queue.length < 192) (now : Nat) (r : FailRecord)
    (rs : List FailRecord) : p.lost.offered now rs = p.offered now (r :: rs) := by
  have none : 192 - p.queue.length = 0 := by omega
  have some : 0 < (p.wanted (r :: rs)).length :=
    List.length_pos_iff.mpr fun empty => List.cons_ne_nil r rs ((wanted_eq_nil wants _).mp empty)
  have same : p.lost.wanted rs = p.wanted rs := rfl
  unfold FailPath.offered
  rw [same, show p.lost.queue = p.queue from rfl, none]
  simp only [List.take_zero, List.length_nil, Nat.le_zero_eq, Nat.sub_zero, Nat.ne_of_gt some, if_false, some, decide_true,
    Bool.or_true, List.length_eq_zero_iff, wanted_eq_nil wants, FailPath.lost, Bool.true_or, Bool.true_and]
  cases rs with
  | nil => rfl
  | cons r' rs =>
    simp only [reduceCtorEq, if_false, raisedBy_sat32 _ _ Nat.one_pos, List.length_cons, Nat.add_comm 1]
    rfl

theorem offers_offered {p : FailPath} (limit : p.limit ≤ 65535) (now : Nat) (rs : List FailRecord) :
    rs.foldl (FailPath.offer now) p = p.offered now rs := by
  induction rs generalizing p with
  | nil => exact (offered_unwanted (wanted_nil p) now).symm
  | cons r rs ih =>
    rw [List.foldl_cons]
    by_cases wants : p.wants = true
    · by_cases room : p.queue.length < 192
      · rw [FailPath.offer, if_pos wants, if_pos room, ih (by exact limit), offered_joined wants limit room]
      · rw [FailPath.offer, if_pos wants, if_neg room, ih (by exact limit), offered_lost wants room]
    · have closed := eq_false_of_ne_true wants
      rw [FailPath.offer, if_neg wants, ih limit, offered_unwanted (wanted_unwanted closed _),
        offered_unwanted (wanted_unwanted closed _)]

/-! ### The cause that a verdict raises -/

/-- A site against which cause UNREPAIRABLE has been raised (R71, R75, R78). -/
def Site.causeRaised (x : Site) : Site :=
  if x.run.state = .armed ∨ x.run.state = .primed then retiredSite { x with run := withCause .unrepairable x.run }
  else if x.run.state = .active then ({ x with run := withCause .unrepairable x.run } : Site).drainStarted
  else { x with
    run := withCause .unrepairable x.run
    reports := { x.reports with
      summaryPending := x.reports.summaryPending || decide (withCause .unrepairable x.run ≠ x.run) } }

/-- The banks of the copies that leave the site with the cause (R14, R49, R75). -/
def Site.causeFrees (x : Site) : List BankRef :=
  if x.run.state = .active then x.head.launchQueue.map LaunchEntry.bound else []

theorem raiseUnrepairable_eq (s : State) (i : SiteIx) : s.raiseCause i .unrepairable =
    ((s.dropRefs (s.site i).causeFrees).modSite i Site.causeRaised).readFlow := by
  rw [State.raiseCause]
  refine congrArg State.readFlow ?_
  unfold Site.causeFrees
  by_cases before : (s.site i).run.state = .armed ∨ (s.site i).run.state = .primed
  · have other : (s.site i).run.state ≠ .active := by rcases before with h | h <;> rw [h] <;> decide
    rw [State.raiseCauseQuiet_before s i .unrepairable (by decide) before, if_neg other, State.dropRefs_nil]
    exact State.modSite_congr s i (if_pos before).symm
  · by_cases active : (s.site i).run.state = .active
    · rw [State.raiseCauseQuiet_drains (by decide) active, if_pos active]
      refine State.modSite_congr _ i ?_
      rw [State.site_dropRefs, Site.causeRaised, if_neg before, if_pos active]
    · have rest : (s.site i).run.state.inTest = false ∨ Cause.unrepairable.kind = .neither
          ∨ ((s.site i).run.state = .draining ∧ Cause.unrepairable.kind = .draining) := by
        revert before active
        cases (s.site i).run.state <;> decide
      rw [State.raiseCauseQuiet_recorded s i .unrepairable rest, State.recordCause_eq, if_neg active, State.dropRefs_nil]
      refine State.modSite_congr s i ?_
      rw [Site.causeRaised, if_neg before, if_neg active]

@[simp] theorem failGap_withCause (k : Cause) (r : RunRecord) : (withCause k r).failGap = r.failGap := by
  unfold withCause
  split
  · rfl
  · split <;> rfl

/-- What the cause leaves as it is. -/
theorem causeRaised_keeps (x : Site) : ∃ (state : SiteState) (head : HeadPort) (marks : SiteMarks) (pending : Bool),
    x.causeRaised = { x with
      run := { withCause .unrepairable x.run with state := state }, head := head, marks := marks
      reports := { x.reports with summaryPending := pending } } := by
  unfold Site.causeRaised Site.drainStarted
  split
  · exact ⟨_, _, _, _, rfl⟩
  · split
    · dsimp only
      split
      · exact ⟨_, _, _, _, rfl⟩
      · exact ⟨_, _, _, _, rfl⟩
    · exact ⟨_, _, _, _, rfl⟩

theorem causeRaised_pending {x : Site} (pending : x.reports.summaryPending = true) :
    x.causeRaised.reports.summaryPending = true := by
  unfold Site.causeRaised Site.drainStarted
  split
  · rfl
  · split
    · dsimp only
      split <;> rfl
    · show (x.reports.summaryPending || _) = true
      rw [pending, Bool.true_or]

/-! ### What each operation does to the site -/

/-- A site with a cell event taken, and the cause raised where that brings the verdict and the option asks for it (R78, R119). -/
def Site.screened (x : Site) (g : RegionIx) (row col : Nat) : Site :=
  if x.newlyCondemned g row col ∧ x.config.retireOnUnrepairable then (x.judged g row col).causeRaised else x.judged g row col

/-- The banks of the copies that leave the site with it. -/
def Site.screenFrees (x : Site) (g : RegionIx) (row col : Nat) : List BankRef :=
  if x.newlyCondemned g row col ∧ x.config.retireOnUnrepairable then x.causeFrees else []

/-- A site that has been offered a candidate, the Report Queue being full or not (R160, R161). -/
def Site.withOffer (x : Site) (full : Bool) : Site :=
  if x.wantsRecord then
    if full then { x with
      run := { x.run with failGap := true }
      reports := { x.reports with
        dropped := sat32 x.reports.dropped 1, gapPending := true
        summaryPending := x.reports.summaryPending || !x.run.failGap } }
    else { x with reports := { x.reports with admitted := sat32 x.reports.admitted 1, gapPending := false } }
  else x

/-- The record that a candidate becomes (R161). -/
def Site.recordsOf (x : Site) (full : Bool) (r : FailRecord) (now : Nat) : List QueuedRecord :=
  if x.wantsRecord = true ∧ full = false then [⟨.fail { r with gap := x.reports.gapPending }, now⟩] else []

/-- A site taking a fail list: itself, the Report Queue, and the banks of the copies that left it. -/
structure FailRun where
  site : Site
  queue : List QueuedRecord
  freed : List BankRef

/-- One operation on a site that takes a fail list. -/
def FailRun.take (now : Nat) (p : FailRun) : FailOp → FailRun
  | .malformed => { p with site := { p.site with mapper := FailOp.count p.site.mapper .malformed } }
  | .vector bits => { p with site := { p.site with mapper := FailOp.count p.site.mapper (.vector bits) } }
  | .candidate r => { p with
      site := p.site.withOffer (decide (192 ≤ p.queue.length))
      queue := p.queue ++ p.site.recordsOf (decide (192 ≤ p.queue.length)) r now }
  | .cell g row col => { p with site := p.site.screened g row col, freed := p.freed ++ p.site.screenFrees g row col }

theorem screened_keeps (x : Site) (g : RegionIx) (row col : Nat) :
    ∃ (run : RunRecord) (head : HeadPort) (marks : SiteMarks) (pending : Bool),
      run.failGap = x.run.failGap ∧ run.unrepairable = (x.withEvent g row col).run.unrepairable
      ∧ x.screened g row col = { x with
        run := run, head := head, marks := marks, regions := (x.withEvent g row col).regions
        reports := { x.reports with summaryPending := pending } } := by
  unfold Site.screened
  split
  · obtain ⟨state, head, marks, pending, is⟩ := causeRaised_keeps (x.judged g row col)
    exact ⟨{ withCause .unrepairable (x.judged g row col).run with state := state }, head, marks, pending,
      failGap_withCause _ _, unrepairable_withCause _ _, is⟩
  · exact ⟨(x.withEvent g row col).run, x.head, x.marks, _, rfl, rfl, rfl⟩

theorem mapper_take (now : Nat) (p : FailRun) (op : FailOp) : (p.take now op).site.mapper = op.count p.site.mapper := by
  cases op with
  | malformed => rfl
  | vector bits => rfl
  | candidate r =>
    show (p.site.withOffer _).mapper = p.site.mapper
    unfold Site.withOffer
    split
    · split <;> rfl
    · rfl
  | cell g row col =>
    obtain ⟨run, head, marks, pending, -, -, is⟩ := screened_keeps p.site g row col
    show (p.site.screened g row col).mapper = p.site.mapper
    rw [is]

/-- The fail-record path of a site that takes a fail list. -/
def FailRun.path (p : FailRun) : FailPath :=
  ⟨p.queue, p.site.config.failMode, p.site.config.failLimit, p.site.reports.admitted, p.site.reports.dropped,
    p.site.reports.gapPending, p.site.run.failGap⟩

theorem path_take (now : Nat) (p : FailRun) (op : FailOp) :
    (p.take now op).path = op.record?.elim p.path (p.path.offer now) := by
  cases op with
  | malformed => rfl
  | vector bits => rfl
  | candidate r =>
    show (p.take now (.candidate r)).path = p.path.offer now r
    have wants : p.path.wants = p.site.wantsRecord := rfl
    have queue : p.path.queue = p.queue := rfl
    unfold FailPath.offer FailRun.take Site.withOffer Site.recordsOf
    rw [wants, queue]
    by_cases through : p.site.wantsRecord = true
    · by_cases room : p.queue.length < 192
      · simp only [through, if_true, room, decide_eq_false (Nat.not_le.mpr room), and_self, Bool.false_eq_true, if_false]
        rfl
      · simp only [through, if_true, room, decide_eq_true (Nat.not_lt.mp room), if_false, reduceCtorEq, and_false,
          List.append_nil]
        rfl
    · simp only [eq_false_of_ne_true through, Bool.false_eq_true, if_false, false_and, List.append_nil]
  | cell g row col =>
    obtain ⟨run, head, marks, pending, failGap, -, is⟩ := screened_keeps p.site g row col
    show FailRun.path { p with site := p.site.screened g row col, freed := p.freed ++ _ } = p.path
    rw [is, FailRun.path, failGap]
    rfl

/-- One cell event on the regions of a site (R108). -/
def FailOp.screen (regions : Vector Region 16) : FailOp → Vector Region 16
  | .cell g row col => regions.set g (regions[g].takeEvent row col)
  | _ => regions

theorem regions_take (now : Nat) (p : FailRun) (op : FailOp) : (p.take now op).site.regions = op.screen p.site.regions := by
  cases op with
  | malformed => rfl
  | vector bits => rfl
  | candidate r =>
    show (p.site.withOffer _).regions = p.site.regions
    unfold Site.withOffer
    split
    · split <;> rfl
    · rfl
  | cell g row col =>
    obtain ⟨run, head, marks, pending, -, -, is⟩ := screened_keeps p.site g row col
    show (p.site.screened g row col).regions = _
    rw [is]
    rfl

/-- Each region takes the cell events that name it, in their order. -/
theorem region_screens (ops : List FailOp) (regions : Vector Region 16) (g : RegionIx) :
    (ops.foldl FailOp.screen regions)[g] = ((ops.filterMap FailOp.event?).filter fun e => e.1 = g.val).foldl
      (fun x e => x.takeEvent e.2.1 e.2.2) regions[g] := by
  induction ops generalizing regions with
  | nil => rfl
  | cons op ops ih =>
    rw [List.foldl_cons, ih]
    cases op with
    | cell h row col =>
      simp only [List.filterMap_cons, FailOp.event?, FailOp.screen]
      by_cases here : h = g
      · subst here
        simp
      · have other : h.val ≠ g.val := fun e => here (Fin.ext e)
        simp [other]
    | _ => rfl

end Sys2Proof.Machine
end

section
/-! A fail list from end to end: the verdict and the cause it raises, told of the whole list, and the hub that the list leaves
(R75, R76, R78, R102, R119). -/
namespace Sys2Proof.Machine

open Sys2Proof.Safety

variable {s u : State} {i : SiteIx} {x y : Site} {p q : FailRun} {g : RegionIx} {row col : Nat}

/-! ### The verdict -/

/-- The verdict on `y`, which `x` has become, and the regions that brought it since. -/
structure Condemns (x y : Site) : Prop where
  dead : ∀ g : RegionIx, x.regions[g].state = .unrepairable → y.regions[g].state = .unrepairable
  verdict : y.run.unrepairable = true ↔ x.run.unrepairable = true
    ∨ ∃ g : RegionIx, x.regions[g].state ≠ .unrepairable ∧ y.regions[g].state = .unrepairable

theorem Condemns.refl (x : Site) : Condemns x x :=
  ⟨fun _ dead => dead, ⟨.inl, fun h => h.elim id fun ⟨_, live, dead⟩ => absurd dead live⟩⟩

theorem Condemns.withEvent (h : Condemns x y) (g : RegionIx) (row col : Nat) : Condemns x (y.withEvent g row col) := by
  have region (l : RegionIx) : (y.withEvent g row col).regions[l]
      = if l = g then y.regions[g].takeEvent row col else y.regions[l] := region_set _ _ _ _
  have stays (l : RegionIx) (dead : y.regions[l].state = .unrepairable) :
      (y.withEvent g row col).regions[l].state = .unrepairable := by
    rw [region]
    split
    · rename_i same
      subst same
      exact state_takeEvent_dead row col dead
    · exact dead
  have verdict : (y.withEvent g row col).run.unrepairable = true ↔ y.run.unrepairable = true
      ∨ (y.regions[g].state ≠ .unrepairable ∧ (y.regions[g].takeEvent row col).state = .unrepairable) := by
    simp [Site.withEvent]
  refine ⟨fun l dead => stays l (h.dead l dead), ?_⟩
  rw [verdict, h.verdict]
  constructor
  · rintro ((before | ⟨l, live, dead⟩) | ⟨live, dead⟩)
    · exact .inl before
    · exact .inr ⟨l, live, stays l dead⟩
    · exact .inr ⟨g, fun before => live (h.dead g before), by rw [region, if_pos rfl]; exact dead⟩
  · rintro (before | ⟨l, live, dead⟩)
    · exact .inl (.inl before)
    · by_cases already : y.regions[l].state = .unrepairable
      · exact .inl (.inr ⟨l, live, already⟩)
      · rw [region] at dead
        split at dead
        · rename_i same
          subst same
          exact .inr ⟨already, dead⟩
        · exact absurd dead already

theorem Condemns.congr (h : Condemns x y) {z : Site} (regions : z.regions = y.regions)
    (verdict : z.run.unrepairable = y.run.unrepairable) : Condemns x z :=
  ⟨by rw [regions]; exact h.dead, by rw [regions, verdict]; exact h.verdict⟩

/-! ### The site but for what a fail list counts -/

/-- A site without its counts of fails, its regions and what is flagged of them. -/
def Site.shell (x : Site) : Site :=
  { x with
    mapper := FailCounters.reset
    regions := Vector.replicate 16 Region.reset
    run := { x.run with failGap := false, unrepairable := false }
    reports := ⟨0, 0, false, false⟩ }

/-- A cause is recorded without regard to what a fail list flags. -/
theorem withCause_flags (c : Cause) (r : RunRecord) (gap verdict : Bool) :
    withCause c { r with failGap := gap, unrepairable := verdict }
      = { withCause c r with failGap := gap, unrepairable := verdict } := by
  unfold withCause
  cases primary : r.primary with
  | none => simp only
  | some _ =>
    simp only
    split
    · rw [← primary]
    · rfl

/-- What the cause does to the site is seen on its shell. -/
theorem shell_causeRaised (x : Site) : x.causeRaised.shell = x.shell.causeRaised.shell := by
  have cause : withCause .unrepairable x.shell.run
      = { withCause .unrepairable x.run with failGap := false, unrepairable := false } := withCause_flags _ _ _ _
  have state : x.shell.run.state = x.run.state := rfl
  unfold Site.causeRaised Site.drainStarted
  rw [cause, state]
  split
  · rfl
  · split
    · dsimp only
      have list : x.shell.head.inFlight = x.head.inFlight := rfl
      rw [list]
      split <;> rfl
    · rfl

/-- The verdict has been given since. -/
def Site.condemnedSince (x y : Site) : Bool := !x.run.unrepairable && y.run.unrepairable

/-- The cause has been raised since. -/
def Site.causeSince (x y : Site) : Bool := x.condemnedSince y && x.config.retireOnUnrepairable

/-- What a fail list has made of a site so far. -/
structure Staged (p q : FailRun) : Prop where
  condemns : Condemns p.site q.site
  gap : p.site.run.failGap = true → q.site.run.failGap = true
  pending : q.site.reports.summaryPending
    = (p.site.reports.summaryPending || (!p.site.run.failGap && q.site.run.failGap) || p.site.condemnedSince q.site)
  shell : q.site.shell = if p.site.causeSince q.site then p.site.causeRaised.shell else p.site.shell
  freed : q.freed = p.freed ++ if p.site.causeSince q.site then p.site.causeFrees else []

theorem condemnedSince_self (x : Site) : x.condemnedSince x = false := Bool.not_and_self _

theorem Staged.refl (p : FailRun) : Staged p p where
  condemns := .refl _
  gap := id
  pending := by rw [condemnedSince_self, Bool.not_and_self, Bool.or_false, Bool.or_false]
  shell := by rw [Site.causeSince, condemnedSince_self]; rfl
  freed := by rw [Site.causeSince, condemnedSince_self]; exact (List.append_nil _).symm

/-- A candidate offered keeps it. -/
theorem Staged.offer (h : Staged p q) (full : Bool) (queue : List QueuedRecord) :
    Staged p { q with site := q.site.withOffer full, queue := queue } := by
  unfold Site.withOffer
  split
  · split
    · refine ⟨h.condemns.congr rfl rfl, fun _ => rfl, ?_, h.shell, h.freed⟩
      show (q.site.reports.summaryPending || !q.site.run.failGap)
        = (p.site.reports.summaryPending || (!p.site.run.failGap && true) || p.site.condemnedSince q.site)
      rw [h.pending]
      have gap := h.gap
      revert gap
      cases p.site.run.failGap <;> cases q.site.run.failGap <;> simp
    · exact ⟨h.condemns.congr rfl rfl, h.gap, h.pending, h.shell, h.freed⟩
  · exact ⟨h.condemns, h.gap, h.pending, h.shell, h.freed⟩

theorem newlyCondemned_iff : x.newlyCondemned g row col = true ↔ x.run.unrepairable = false
    ∧ (x.withEvent g row col).run.unrepairable = true := by
  simp only [Site.newlyCondemned, Site.withEvent, Bool.and_eq_true, Bool.not_eq_true', Bool.or_eq_true]
  cases x.run.unrepairable <;> simp

/-- A cell event that brings no verdict keeps it. -/
theorem Staged.quietEvent (h : Staged p q) (old : q.site.newlyCondemned g row col = false) :
    Staged p { q with site := q.site.judged g row col } := by
  have same : (q.site.judged g row col).run.unrepairable = q.site.run.unrepairable := by
    refine Classical.byContradiction fun changed => ?_
    have none := mt newlyCondemned_iff.mpr (Bool.eq_false_iff.mp old)
    revert changed none
    show ¬(q.site.withEvent g row col).run.unrepairable = _ → _
    have keeps : q.site.run.unrepairable = true → (q.site.withEvent g row col).run.unrepairable = true := by
      intro before
      simp [Site.withEvent, before]
    revert keeps
    cases q.site.run.unrepairable <;> cases (q.site.withEvent g row col).run.unrepairable <;> simp
  have since : p.site.condemnedSince (q.site.judged g row col) = p.site.condemnedSince q.site := by
    rw [Site.condemnedSince, same, Site.condemnedSince]
  have causes : p.site.causeSince (q.site.judged g row col) = p.site.causeSince q.site := by
    rw [Site.causeSince, since, Site.causeSince]
  refine ⟨(h.condemns.withEvent g row col).congr rfl rfl, h.gap, ?_, ?_, ?_⟩
  · show (q.site.judged g row col).reports.summaryPending = _
    rw [since]
    show (q.site.reports.summaryPending || q.site.newlyCondemned g row col) = _
    rw [old, Bool.or_false]
    exact h.pending
  · show (q.site.judged g row col).shell = if p.site.causeSince (q.site.judged g row col) then _ else _
    rw [causes]
    exact h.shell
  · show q.freed = p.freed ++ if p.site.causeSince (q.site.judged g row col) then _ else _
    rw [causes]
    exact h.freed

/-- A cell event that brings the verdict keeps it. -/
theorem Staged.condemningEvent (h : Staged p q) (new : q.site.newlyCondemned g row col = true) :
    Staged p { q with site := q.site.screened g row col, freed := q.freed ++ q.site.screenFrees g row col } := by
  obtain ⟨fresh, turned⟩ := newlyCondemned_iff.mp new
  obtain ⟨run, head, marks, pending, failGap, verdict, is⟩ := screened_keeps q.site g row col
  have first : p.site.run.unrepairable = false := by
    refine Classical.byContradiction fun before => ?_
    rw [h.condemns.verdict.mpr (.inl (eq_true_of_ne_false before))] at fresh
    cases fresh
  have before : p.site.causeSince q.site = false := by rw [Site.causeSince, Site.condemnedSince, fresh, Bool.and_false, Bool.false_and]
  have now : (q.site.screened g row col).run.unrepairable = true := by rw [is]; exact verdict.trans turned
  have since : p.site.condemnedSince (q.site.screened g row col) = true := by rw [Site.condemnedSince, first, now]; rfl
  have shell : q.site.shell = p.site.shell := by rw [h.shell, before]; rfl
  have freed : q.freed = p.freed := by rw [h.freed, before]; exact List.append_nil _
  have asked : q.site.config.retireOnUnrepairable = p.site.config.retireOnUnrepairable :=
    congrArg SiteConfig.retireOnUnrepairable (congrArg Site.config shell :)
  have frees : q.site.causeFrees = p.site.causeFrees := (congrArg Site.causeFrees shell :)
  have flagged : (q.site.judged g row col).reports.summaryPending = true := by
    show (_ || q.site.newlyCondemned g row col) = true
    rw [new, Bool.or_true]
  refine ⟨(h.condemns.withEvent g row col).congr (by rw [is]) (by rw [now, turned]), fun gap => ?_, ?_, ?_, ?_⟩
  · rw [is]
    exact failGap.trans (h.gap gap)
  · rw [since, Bool.or_true]
    show (q.site.screened g row col).reports.summaryPending = true
    unfold Site.screened
    split
    · exact causeRaised_pending flagged
    · exact flagged
  · show (q.site.screened g row col).shell = if p.site.causeSince (q.site.screened g row col) then _ else _
    rw [Site.causeSince, since, Bool.true_and, Site.screened]
    by_cases retire : p.site.config.retireOnUnrepairable = true
    · rw [if_pos retire, if_pos ⟨new, asked.trans retire⟩, shell_causeRaised, shell_causeRaised p.site, ← shell]
      rfl
    · rw [if_neg retire, if_neg fun both => retire (asked.symm.trans both.2), ← shell]
      rfl
  · show q.freed ++ q.site.screenFrees g row col = p.freed ++ if p.site.causeSince (q.site.screened g row col) then _ else _
    rw [Site.causeSince, since, Bool.true_and, Site.screenFrees, freed]
    by_cases retire : p.site.config.retireOnUnrepairable = true
    · rw [if_pos retire, if_pos ⟨new, asked.trans retire⟩, frees]
    · rw [if_neg retire, if_neg fun both => retire (asked.symm.trans both.2)]

theorem Staged.take (h : Staged p q) (now : Nat) (op : FailOp) : Staged p (q.take now op) := by
  cases op with
  | malformed => exact ⟨h.condemns.congr rfl rfl, h.gap, h.pending, h.shell, h.freed⟩
  | vector bits => exact ⟨h.condemns.congr rfl rfl, h.gap, h.pending, h.shell, h.freed⟩
  | candidate r => exact h.offer _ _
  | cell g row col =>
    cases new : q.site.newlyCondemned g row col with
    | true => exact h.condemningEvent new
    | false =>
      have none : q.take now (.cell g row col) = { q with site := q.site.judged g row col } := by
        have off : ¬(q.site.newlyCondemned g row col = true ∧ q.site.config.retireOnUnrepairable = true) := by
          rw [new]
          exact fun both => Bool.false_ne_true both.1
        rw [FailRun.take, Site.screened, Site.screenFrees, if_neg off, if_neg off, List.append_nil]
      rw [none]
      exact h.quietEvent new

theorem staged_fold (now : Nat) (ops : List FailOp) (p : FailRun) : Staged p (ops.foldl (FailRun.take now) p) := by
  suffices ∀ q, Staged p q → Staged p (ops.foldl (FailRun.take now) q) from this p (.refl p)
  induction ops with
  | nil => exact fun q h => h
  | cons op ops ih => exact fun q h => ih _ (h.take now op)

end Sys2Proof.Machine
end

section
/-! The hub that a fail list leaves, and the fail list of a DONE result (R95 to R102, R119, R160, R161). -/
namespace Sys2Proof.Machine

open Sys2Proof.Safety

variable {s u : State} {i : SiteIx} {p q : FailRun} {older newer : List InFlight} {record : InFlight}

/-! ### The hub while a site takes a fail list -/

theorem profiles_dropRefs {s u : State} (same : u.profiles = s.profiles) (rs : List BankRef) :
    (u.dropRefs rs).profiles = (s.dropRefs rs).profiles := by
  induction rs generalizing s u with
  | nil => exact same
  | cons r rs ih => exact ih (by simp only [State.dropRef, State.modBank, State.modProfile, same])

/-- Hub `s` with the parts that a fail list reaches taken from `u`. -/
def State.beside (s u : State) : State :=
  { s with
    profiles := u.profiles, sites := u.sites, flow := u.flow
    trunk := { s.trunk with pendingFlow := u.trunk.pendingFlow }
    report := { s.report with queue := u.report.queue, hubPending := u.report.hubPending } }

theorem beside_trans {w : State} (h : u = s.beside u) (h' : w = u.beside w) : w = s.beside w :=
  h'.trans (congrArg (·.beside w) h)

theorem beside_readFlow (u : State) : u.readFlow = u.beside u.readFlow := by
  rw [State.readFlow_frame]
  rfl

theorem beside_dropRefs (u : State) (rs : List BankRef) : u.dropRefs rs = u.beside (u.dropRefs rs) := by
  rw [State.dropRefs_frame]
  rfl

/-- Hub `u` is hub `s` with site `i` so far in its fail list. -/
structure Reached (s : State) (i : SiteIx) (p : FailRun) (u : State) : Prop where
  site : u.site i = p.site
  others : ∀ j : SiteIx, j ≠ i → u.site j = s.site j
  queue : u.report.queue = p.queue
  profiles : u.profiles = (s.dropRefs p.freed).profiles
  frame : u = s.beside u

theorem Reached.clock (h : Reached s i p u) : u.clock = s.clock := (congrArg State.clock h.frame :)

theorem Reached.readFlow (h : Reached s i p u) : Reached s i p u.readFlow where
  site := (State.site_readFlow u i).trans h.site
  others j other := (State.site_readFlow u j).trans (h.others j other)
  queue := (State.queue_readFlow u).trans h.queue
  profiles := by rw [State.readFlow_frame]; exact h.profiles
  frame := beside_trans h.frame (beside_readFlow u)

theorem Reached.modSite (h : Reached s i p u) (f : Site → Site) :
    Reached s i ⟨f p.site, p.queue, p.freed⟩ (u.modSite i f) where
  site := by rw [State.site_modSite_same, h.site]
  others j other := by rw [State.site_modSite_ne u other, h.others j other]
  queue := h.queue
  profiles := h.profiles
  frame := beside_trans h.frame rfl

theorem Reached.dropRefs (h : Reached s i p u) (rs : List BankRef) :
    Reached s i ⟨p.site, p.queue, p.freed ++ rs⟩ (u.dropRefs rs) where
  site := (State.site_dropRefs _ _ _).trans h.site
  others j other := (State.site_dropRefs _ _ _).trans (h.others j other)
  queue := by rw [State.dropRefs_frame]; exact h.queue
  profiles := by rw [State.dropRefs_append, profiles_dropRefs h.profiles]
  frame := beside_trans h.frame (beside_dropRefs u rs)

theorem Reached.enqueue (h : Reached s i p u) (r : Record) :
    Reached s i ⟨p.site, p.queue ++ [⟨r, s.clock⟩], p.freed⟩ (u.enqueue r) := by
  have joined : u.report.queue ++ [⟨r, u.clock⟩] = p.queue ++ [⟨r, s.clock⟩] := by rw [h.clock, h.queue]
  have stands : Reached s i ⟨p.site, p.queue ++ [⟨r, s.clock⟩], p.freed⟩
      { u with report := { u.report with queue := u.report.queue ++ [⟨r, u.clock⟩] } } :=
    ⟨h.site, h.others, joined, h.profiles, beside_trans h.frame rfl⟩
  rw [State.enqueue_eq]
  exact stands.readFlow

/-- A drop counts, marks the next record and flags FAIL_GAP at the first (R160, R161). -/
theorem dropFail_eq (u : State) (i : SiteIx) : u.dropFail i = u.modSite i fun x => { x with
    run := { x.run with failGap := true }
    reports := { x.reports with
      dropped := sat32 x.reports.dropped 1, gapPending := true
      summaryPending := x.reports.summaryPending || !x.run.failGap } } := by
  unfold State.dropFail
  simp only [State.modReports_eq, State.modRun_eq, State.flagSite_eq, State.modSite_modSite]
  split
  · rename_i gap
    refine State.modSite_congr u i ?_
    rw [gap, Bool.not_true, Bool.or_false, ← gap]
  · rename_i gap
    refine State.modSite_congr u i ?_
    rw [eq_false_of_ne_true gap, Bool.not_false, Bool.or_true]

theorem Reached.offer (h : Reached s i p u) (r : FailRecord) :
    Reached s i (p.take s.clock (.candidate r)) (u.offerFail i r) := by
  rw [FailRun.take, Site.withOffer, Site.recordsOf, State.offerFail, h.site, h.queue]
  by_cases wants : p.site.wantsRecord = true
  · by_cases room : p.queue.length < 192
    · simp only [wants, room, decide_eq_false (Nat.not_le.mpr room), and_self, if_true, Bool.false_eq_true, if_false]
      rw [State.admitFail, h.site]
      exact (h.modSite fun x => { x with
        reports := { x.reports with admitted := sat32 x.reports.admitted 1, gapPending := false } }).enqueue _
    · simp only [wants, room, decide_eq_true (Nat.not_lt.mp room), if_true, if_false, reduceCtorEq, and_false, List.append_nil]
      rw [dropFail_eq]
      exact h.modSite fun x => { x with
        run := { x.run with failGap := true }
        reports := { x.reports with
          dropped := sat32 x.reports.dropped 1, gapPending := true
          summaryPending := x.reports.summaryPending || !x.run.failGap } }
  · simp only [eq_false_of_ne_true wants, Bool.false_eq_true, if_false, false_and, List.append_nil]
    exact h

theorem Reached.cell (h : Reached s i p u) (g : RegionIx) (row col : Nat) :
    Reached s i (p.take s.clock (.cell g row col)) (u.cellEvent i g row col) := by
  rw [FailRun.take, Site.screened, Site.screenFrees, State.cellEvent_eq, h.site]
  split
  · have frees : ((u.modSite i fun x => x.judged g row col).site i).causeFrees = p.site.causeFrees := by
      rw [State.site_modSite_same, h.site]
      rfl
    rw [raiseUnrepairable_eq, frees, State.dropRefs_modSite, State.modSite_modSite]
    exact ((h.dropRefs p.site.causeFrees).modSite fun x => (x.judged g row col).causeRaised).readFlow
  · rw [List.append_nil]
    exact h.modSite fun x => x.judged g row col

theorem Reached.take (h : Reached s i p u) (op : FailOp) : Reached s i (p.take s.clock op) (op.take i u) := by
  cases op with
  | malformed => exact h.modSite fun x => { x with mapper := FailOp.count x.mapper .malformed }
  | vector bits => exact h.modSite fun x => { x with mapper := FailOp.count x.mapper (.vector bits) }
  | candidate r => exact h.offer r
  | cell g row col => exact h.cell g row col

theorem reached_fold (ops : List FailOp) (h : Reached s i p u) :
    Reached s i (ops.foldl (FailRun.take s.clock) p) (ops.foldl (FailOp.take i) u) := by
  induction ops generalizing p u with
  | nil => exact h
  | cons op ops ih => exact ih (h.take op)

/-- A projection of the site follows a fail list by itself. -/
theorem fold_take {α : Type} {π : FailRun → α} {step : α → FailOp → α} (now : Nat)
    (one : ∀ (p : FailRun) (op : FailOp), π (p.take now op) = step (π p) op) (ops : List FailOp) (p : FailRun) :
    π (ops.foldl (FailRun.take now) p) = ops.foldl step (π p) := by
  induction ops generalizing p with
  | nil => rfl
  | cons op ops ih => rw [List.foldl_cons, ih, one]; rfl

theorem mapper_fold (now : Nat) (ops : List FailOp) (p : FailRun) :
    (ops.foldl (FailRun.take now) p).site.mapper = ops.foldl FailOp.count p.site.mapper :=
  fold_take (π := fun p => p.site.mapper) now (mapper_take now) ops p

theorem region_fold (now : Nat) (ops : List FailOp) (p : FailRun) (g : RegionIx) :
    (ops.foldl (FailRun.take now) p).site.regions[g] = ((ops.filterMap FailOp.event?).filter fun e => e.1 = g.val).foldl
      (fun x e => x.takeEvent e.2.1 e.2.2) p.site.regions[g] := by
  rw [← region_screens]
  exact congrArg (·[g]) (fold_take (π := fun p => p.site.regions) now (regions_take now) ops p)

theorem path_fold (now : Nat) {ops : List FailOp} {p : FailRun} (limit : p.site.config.failLimit ≤ 65535) :
    (ops.foldl (FailRun.take now) p).path = p.path.offered now (ops.filterMap FailOp.record?) := by
  rw [← offers_offered (by exact limit), List.foldl_filterMap,
    fold_take (π := FailRun.path) (step := fun x op => op.record?.elim x (x.offer now)) now (path_take now)]
  refine congrArg (fun f => List.foldl f p.path ops) (funext fun x => funext fun op => ?_)
  cases op.record? <;> rfl

end Sys2Proof.Machine
end

section
/-! The fail list of a DONE result (R75, R76, R78, R95 to R102, R119, R160, R161). -/
namespace Sys2Proof.Machine

open Sys2Proof.Safety

variable {s u : State} {i : SiteIx} {p q : FailRun} {older newer : List InFlight} {record : InFlight} {x y : Site}

/-! ### The end of a drain -/

/-- A site whose drain is ended where it drains with nothing in flight (R76). -/
def Site.drainEnded (x : Site) : Site := if x.run.state = .draining ∧ x.head.inFlight = [] then retiredSite x else x

theorem drainEnded_keeps (x : Site) : ∃ (state : SiteState) (head : HeadPort) (marks : SiteMarks) (pending : Bool),
    x.drainEnded = { x with
      run := { x.run with state := state }, head := head, marks := marks
      reports := { x.reports with summaryPending := pending } } := by
  unfold Site.drainEnded
  split
  · exact ⟨_, _, _, _, rfl⟩
  · exact ⟨x.run.state, x.head, x.marks, x.reports.summaryPending, rfl⟩

/-- The fail list of a DONE result, from the match to the end of a drain it may bring. -/
theorem exec_doneResult {f : ResultFrame} (hearing : Hearing s i) (list : (s.site i).head.inFlight = older ++ record :: newer)
    (others : ∀ q ∈ older, q.desc.tag ≠ f.tag) (same : record.desc.tag = f.tag) (status : f.status = 1)
    (few : f.entries.length ≤ 64) (p : FailRun)
    (is : p = (failOps i (s.bank record.bound).tables record.desc none f.entries).foldl (FailRun.take s.clock)
      ⟨(s.site i).answered older newer (decide (older = [])) (lastBlock s i), s.report.queue,
        (older ++ [record]).map InFlight.bound⟩) :
    ∃ u, exec (.result i (some f)) s = .next u ∧ Reached s i ⟨p.site.drainEnded, p.queue, p.freed⟩ u := by
  have start : Reached s i ⟨s.site i, s.report.queue, []⟩ s := ⟨rfl, fun _ _ => rfl, rfl, rfl, rfl⟩
  have retired := (start.dropRefs ((older ++ [record]).map InFlight.bound)).modSite
    fun _ => (s.site i).answered older newer (decide (older = [])) (lastBlock s i)
  have taken := (reached_fold (failOps i (s.bank record.bound).tables record.desc none f.entries) retired).modSite Site.drainEnded
  rw [List.nil_append, ← is] at taken
  refine ⟨_, ?_, taken⟩
  rw [exec_result hearing, resultFrame_good (done := true) (by rw [status]; rfl) few, takeResult_match list others same,
    State.takeMatch]
  simp only [retired_eq list, if_true, takeFails_ops, State.endDrain_eq, Bool.and_true]
  rfl

/-! ### The site after a fail list -/

theorem site_ext {x y : Site} (config : x.config = y.config) (run : x.run = y.run) (head : x.head = y.head)
    (mapper : x.mapper = y.mapper) (regions : x.regions = y.regions) (marks : x.marks = y.marks) (supply : x.supply = y.supply)
    (reports : x.reports = y.reports) : x = y := by
  cases x
  cases y
  simp only [Site.mk.injEq]
  exact ⟨config, run, head, mapper, regions, marks, supply, reports⟩

/-- A cause changes the causes of a run record alone (R72). -/
theorem withCause_fields (c : Cause) (r : RunRecord) : ∃ (primary : Option Cause) (additional : List Cause),
    withCause c r = { r with primary := primary, additional := additional } := by
  unfold withCause
  split
  · exact ⟨some c, r.additional, rfl⟩
  · split
    · exact ⟨r.primary, r.additional, rfl⟩
    · exact ⟨r.primary, insertCause c r.additional, rfl⟩

/-- The drain that a raised cause starts, or that was on, ends with the last record (R75, R76). -/
theorem drainEnded_cause (running : x.run.state = .active ∨ x.run.state = .draining) (cause gone : Bool)
    (is : gone = (decide (x.head.inFlight = []) && (cause || decide (x.run.state = .draining)))) :
    (if cause then x.causeRaised else x).drainEnded = { x with
      run := { (if cause then withCause .unrepairable x.run else x.run) with
        state := if gone then .retired else if cause then .draining else x.run.state }
      head := { x.head with
        launchQueue := if cause ∧ x.run.state = .active then [] else x.head.launchQueue
        flushed := if cause ∧ x.run.state = .active then (x.head.flushed + x.head.launchQueue.length) % 2 ^ 48
          else x.head.flushed
        controlList := if gone then cutRaised x.head.controlList else x.head.controlList }
      marks := if gone then { x.marks with scheduled := [] } else x.marks
      reports := (if cause then x.causeRaised else x).drainEnded.reports } := by
  subst is
  rcases running with state | state
  · cases cause with
    | false =>
      simp [Site.drainEnded, state]
      rw [← state]
    | true =>
      by_cases empty : x.head.inFlight = []
      · simp [Site.drainEnded, Site.causeRaised, Site.drainStarted, state, empty, retiredSite]
      · simp [Site.drainEnded, Site.causeRaised, Site.drainStarted, state, empty]
  · by_cases empty : x.head.inFlight = []
    · cases cause with
      | false => simp [Site.drainEnded, state, empty, retiredSite]
      | true => simp [Site.drainEnded, Site.causeRaised, state, empty, retiredSite]
    · cases cause with
      | false =>
        simp [Site.drainEnded, state, empty]
        rw [← state]
      | true =>
        obtain ⟨primary, additional, is⟩ := withCause_fields .unrepairable x.run
        simp [Site.drainEnded, Site.causeRaised, state, empty, is]

/-- A site with what a fail list counts and flags taken from `y`. -/
def Site.listed (x y : Site) (reports : SiteReports) : Site :=
  { x with
    run := { x.run with failGap := y.run.failGap, unrepairable := y.run.unrepairable }
    mapper := y.mapper, regions := y.regions, reports := reports }

theorem drainEnded_listed (x y : Site) (reports : SiteReports) :
    (x.listed y reports).drainEnded = x.drainEnded.listed y (x.listed y reports).drainEnded.reports := by
  have state : (x.listed y reports).run.state = x.run.state := rfl
  have flying : (x.listed y reports).head.inFlight = x.head.inFlight := rfl
  unfold Site.drainEnded
  rw [state, flying]
  split <;> rfl

theorem drainEnded_pending (x : Site) : x.drainEnded.reports = { x.reports with
    summaryPending := x.reports.summaryPending || decide (x.run.state = .draining ∧ x.head.inFlight = []) } := by
  unfold Site.drainEnded
  split
  · rename_i ends
    rw [decide_eq_true ends, Bool.or_true]
    rfl
  · rename_i goes
    rw [decide_eq_false goes, Bool.or_false]

/-- Beside what a fail list counts and flags, the site is as the cause has left it, or as before. -/
theorem Staged.listed (h : Staged p q) : q.site
    = (if p.site.causeSince q.site then p.site.causeRaised else p.site).listed q.site q.site.reports := by
  have shell : q.site.shell = (if p.site.causeSince q.site then p.site.causeRaised else p.site).shell := by
    rw [h.shell]
    split <;> rfl
  generalize (if p.site.causeSince q.site then p.site.causeRaised else p.site) = z at shell
  exact (congrArg (fun y : Site => y.listed q.site q.site.reports) shell :)

/-- The site that a fail list leaves, told of the site before it. -/
theorem Staged.drainEnded (h : Staged p q) (running : p.site.run.state = .active ∨ p.site.run.state = .draining)
    {cause gone : Bool} (isCause : cause = p.site.causeSince q.site)
    (isGone : gone = (decide (p.site.head.inFlight = []) && (cause || decide (p.site.run.state = .draining)))) :
    q.site.drainEnded = { p.site with
      run := { (if cause then withCause .unrepairable p.site.run else p.site.run) with
        state := if gone then .retired else if cause then .draining else p.site.run.state
        failGap := q.site.run.failGap, unrepairable := q.site.run.unrepairable }
      head := { p.site.head with
        launchQueue := if cause ∧ p.site.run.state = .active then [] else p.site.head.launchQueue
        flushed := if cause ∧ p.site.run.state = .active then
            (p.site.head.flushed + p.site.head.launchQueue.length) % 2 ^ 48
          else p.site.head.flushed
        controlList := if gone then cutRaised p.site.head.controlList else p.site.head.controlList }
      marks := if gone then { p.site.marks with scheduled := [] } else p.site.marks
      mapper := q.site.mapper, regions := q.site.regions
      reports := { q.site.reports with summaryPending := q.site.reports.summaryPending || gone } } := by
  have listed := h.listed
  have ended := drainEnded_cause running cause gone isGone
  rw [← isCause] at listed
  have flagged : q.site.drainEnded.reports = { q.site.reports with summaryPending := q.site.reports.summaryPending || gone } := by
    rw [drainEnded_pending]
    cases cause with
    | true =>
      have since : p.site.condemnedSince q.site = true := (Bool.and_eq_true _ _ ▸ isCause.symm).1
      rw [h.pending, since, Bool.or_true, Bool.true_or, Bool.true_or]
    | false =>
      have state : q.site.run.state = p.site.run.state := (congrArg (fun x : Site => x.run.state) listed :)
      have flying : q.site.head.inFlight = p.site.head.inFlight := (congrArg (fun x : Site => x.head.inFlight) listed :)
      rw [isGone, state, flying, Bool.false_or, Bool.decide_and, Bool.and_comm]
  calc q.site.drainEnded
    _ = ((if cause then p.site.causeRaised else p.site).listed q.site q.site.reports).drainEnded := congrArg _ listed
    _ = (if cause then p.site.causeRaised else p.site).drainEnded.listed q.site q.site.drainEnded.reports := by
      rw [drainEnded_listed, ← listed]
    _ = _ := by
      rw [ended, flagged]
      rfl

theorem condemnedSince_iff (h : Condemns x y) : x.condemnedSince y = true ↔ x.run.unrepairable = false
    ∧ ∃ g : RegionIx, x.regions[g].state ≠ .unrepairable ∧ y.regions[g].state = .unrepairable := by
  rw [Site.condemnedSince, Bool.and_eq_true, Bool.not_eq_true', h.verdict]
  refine and_congr_right fun clear => ?_
  rw [clear]
  exact or_iff_right Bool.false_ne_true

/-- The verdict stands where it stood or has been given since. -/
theorem verdict_since (h : Condemns x y) : y.run.unrepairable = (x.run.unrepairable || x.condemnedSince y) := by
  have stays : x.run.unrepairable = true → y.run.unrepairable = true := fun before => h.verdict.mpr (.inl before)
  rw [Site.condemnedSince]
  revert stays
  cases x.run.unrepairable <;> simp

/-- What a fail list flags of a run record, told by whether it differs. -/
theorem runChanged_eq (r : RunRecord) (missing gap condemned : Bool) (gapStays : r.failGap = true → gap = true)
    (fresh : condemned = true → r.unrepairable = false) :
    decide (({ r with
      mapIncomplete := r.mapIncomplete || missing, failGap := gap, unrepairable := r.unrepairable || condemned } : RunRecord) ≠ r)
    = ((missing && !r.mapIncomplete) || (!r.failGap && gap) || condemned) := by
  obtain ⟨state, primary, additional, mapIncomplete, unrepairable, failGap, offsetSaturated, joinGeometry, trainingLimit⟩ := r
  simp only [ne_eq, RunRecord.mk.injEq, true_and, and_true] at gapStays fresh ⊢
  clear state primary additional offsetSaturated joinGeometry trainingLimit
  revert missing gap condemned mapIncomplete unrepairable failGap
  decide

/-- Settles O46: the counts, the regions, the queue and the path by themselves, and the site by what the cause did to it. -/
theorem failListsAreMappedInOrder : Obligations.FailListsAreMappedInOrder := by
  rintro s i f older newer record t candidates wanted room hearing list others same status few limit rfl isC isW rfl
  generalize start : (⟨(s.site i).answered older newer (decide (older = [])) (lastBlock s i), s.report.queue,
    (older ++ [record]).map InFlight.bound⟩ : FailRun) = p
  generalize isOps : failOps i (s.bank record.bound).tables record.desc none f.entries = ops
  obtain ⟨u, next, reached⟩ := exec_doneResult hearing list others same status few _ rfl
  rw [start, isOps] at reached
  have staged := staged_fold s.clock ops p
  have path := path_fold s.clock (ops := ops) (p := p) (by rw [← start]; exact limit)
  have mapper := mapper_fold s.clock ops p
  have region := region_fold s.clock ops p
  generalize ops.foldl (FailRun.take s.clock) p = q at reached staged path mapper region
  rw [failCandidates_eq] at isC
  rw [← isOps, records_failOps, ← isC] at path
  rw [← isOps, count_failOps, ← isC] at mapper
  rw [← isOps, events_failOps, ← isC] at region
  have isWanted : p.path.wanted candidates = wanted := by rw [isW, ← start]; rfl
  have isQueue : p.path.queue = s.report.queue := by rw [← start]; rfl
  rw [FailPath.offered, isWanted, isQueue] at path
  obtain ⟨state, head, marks, pending, ended⟩ := drainEnded_keeps q.site
  have site := reached.site
  refine ⟨u, next, ?_, fun g => ?_, reached.others, ?_, ?_, ?_, ?_, ?_, reached.frame, ?_⟩
  · rw [site, ended]
    exact mapper.trans (by rw [← start]; rfl)
  · rw [site, ended]
    exact (region g).trans (by rw [← start]; rfl)
  · rw [reached.queue]
    exact (congrArg FailPath.queue path :).trans (by rw [← start]; rfl)
  · rw [site, ended]
    exact (congrArg FailPath.admitted path :).trans (by rw [← start]; rfl)
  · rw [site, ended]
    exact (congrArg FailPath.dropped path :).trans (by rw [← start]; rfl)
  · rw [site, ended]
    exact (congrArg FailPath.gapPending path :).trans (by rw [← start]; rfl)
  · rw [site, ended]
    exact (congrArg FailPath.failGap path :).trans (by rw [← start]; rfl)
  intro condemned cause gone run running isCondemned isCause isGone isRun
  subst start
  have since : condemned = ((s.site i).answered older newer (decide (older = [])) (lastBlock s i)).condemnedSince q.site := by
    rw [Bool.eq_iff_iff, condemnedSince_iff staged.condemns, isCondemned, site, ended]
    rfl
  have causes : cause = ((s.site i).answered older newer (decide (older = [])) (lastBlock s i)).causeSince q.site := by
    rw [isCause, since]
    rfl
  have whole : (!decide (older = [])) = decide (older ≠ []) := (decide_not ..).symm
  have verdict : q.site.run.unrepairable = ((s.site i).run.unrepairable || condemned) := by
    rw [since]
    exact (verdict_since staged.condemns :)
  have gap : (u.site i).run.failGap = q.site.run.failGap := by rw [site, ended]
  have changed : decide (run ≠ (s.site i).run) = ((decide (older ≠ []) && !(s.site i).run.mapIncomplete)
      || (!(s.site i).run.failGap && q.site.run.failGap) || condemned) := by
    rw [isRun, gap]
    exact runChanged_eq _ _ _ _ staged.gap fun new => (isCondemned.mp new).1
  have left := staged.drainEnded running causes isGone
  have mappers : (u.site i).mapper = q.site.mapper := by rw [site, ended]
  have regions : (u.site i).regions = q.site.regions := by rw [site, ended]
  have reports : (u.site i).reports.admitted = q.site.reports.admitted ∧ (u.site i).reports.dropped = q.site.reports.dropped
      ∧ (u.site i).reports.gapPending = q.site.reports.gapPending := by rw [site, ended]; exact ⟨rfl, rfl, rfl⟩
  refine ⟨?_, ?_⟩
  · rw [mappers, regions, reports.1, reports.2.1, reports.2.2, site, left]
    refine site_ext rfl ?_ rfl rfl rfl rfl rfl ?_
    · have flags : run = { ((s.site i).answered older newer (decide (older = [])) (lastBlock s i)).run with
          failGap := q.site.run.failGap, unrepairable := q.site.run.unrepairable } := by
        rw [isRun, gap, verdict, ← whole]
        rfl
      rw [flags]
      cases cause with
      | true =>
        simp only [if_true]
        rw [withCause_flags .unrepairable _ q.site.run.failGap q.site.run.unrepairable]
      | false => rfl
    · refine congrArg (SiteReports.mk q.site.reports.admitted q.site.reports.dropped q.site.reports.gapPending) ?_
      rw [changed, staged.pending, ← since, ← whole]
      show (((s.site i).reports.summaryPending || (!decide (older = []) && !(s.site i).run.mapIncomplete)
          || (!(s.site i).run.failGap && q.site.run.failGap) || condemned) || gone) = _
      simp only [Bool.or_comm, Bool.or_left_comm, Bool.or_self_left]
  · rw [reached.profiles]
    show (s.dropRefs q.freed).profiles = _
    rw [staged.freed, ← causes]
    cases cause with
    | true =>
      simp only [if_true, true_and]
      rfl
    | false => rfl

end Sys2Proof.Machine
end
